-- ==== Sys2Proof/Word.lean ====
section
/-! DEFINITION. The word types of CRC16-TG (spec 00_scope.md R6, R9; 10_state.md R20; 30_encoding.md R70, R71).
Every value is an unsigned bit vector of a stated width; there is no signed value anywhere (R9). -/

namespace Sys2Proof

/-- A byte (R10: "A byte is 8 bits."). -/
abbrev Byte := BitVec 8

/-- A byte sequence (R10): the head of the list is the byte that goes first on the wire. -/
abbrev Bytes := List Byte

/-- The data field of a port transaction, `XLEN = 32` bits (R6), and the budget, `BW = 32` bits (R6). -/
abbrev Word := BitVec 32

/-- A checksum, `CRC_WIDTH = 16` bits (R6). -/
abbrev Checksum := BitVec 16

/-- A time value of the block, `TW = 64` bits (R6): the time base `NOW` and the start timestamp `TG_START`. -/
abbrev Time := BitVec 64

/-- A byte offset in the 64-byte register space, `ADDR_BITS = 6` bits (R6, R50). -/
abbrev Offset := BitVec 6

/-- A transaction word `T`, 40 bits (R70). -/
abbrev TransactionWord := BitVec 40

/-- A response word `P`, 33 bits (R71). -/
abbrev ResponseWord := BitVec 33

end Sys2Proof
end

