-- ==== Sys2Proof/Syntax.lean ====
section
/-! DEFINITION. The block's operations as data: the thirteen operations of 30_encoding.md R75 (spec/opcode_table.json),
the ten registers of 10_state.md R24, the six refusal causes of 60_exceptions.md R191, and the lines of the
assembler notation of R79. -/

namespace Sys2Proof

/-- The thirteen operations (R75). A write carries its operand `WDATA` whole, legal or not (the operation's own rule
refuses an illegal one with `ERR_VALUE`, R104 to R139); a read has no operand (R70: `WDATA` of a read is ignored). -/
inductive Instr where
  | wrCrcCtrl (v : Word)
  | wrCrcData (v : Word)
  | rdCrcAcc
  | wrCrcExpect (v : Word)
  | rdCrcExpect
  | rdCrcStatus
  | wrTgBudget (v : Word)
  | rdTgBudget
  | wrTgMode (v : Word)
  | rdTgMode
  | wrTgCtrl (v : Word)
  | rdTgStatus
  | rdTgRemaining
  deriving DecidableEq, Repr

/-- The ten registers of the register map (R24). -/
inductive Reg where
  | crcCtrl
  | crcData
  | crcAcc
  | crcExpect
  | crcStatus
  | tgCtrl
  | tgBudget
  | tgMode
  | tgStatus
  | tgRemaining
  deriving DecidableEq, Repr

/-- The six causes for which a transaction is refused (R191). -/
inductive ErrCause where
  /-- `ERR_FORMAT`: the bit `RSV` of the transaction word is 1. -/
  | format
  /-- `ERR_ALIGN`: the offset is not a multiple of 4. -/
  | align
  /-- `ERR_ADDR`: one of the six reserved word offsets. -/
  | addr
  /-- `ERR_ACCESS`: the register may not be accessed in this direction. -/
  | access
  /-- `ERR_VALUE`: a write with a 1 in a reserved bit, or `WR TG_CTRL, 0x3`. -/
  | value
  /-- `ERR_NOT_STARTED`: `RD TG_REMAINING` while no governor is started. -/
  | notStarted
  deriving DecidableEq, Repr

/-- What a line of the assembler notation addresses: one of the ten register names, or a numeric offset
"to write an illegal access in a test" (R79). -/
inductive AsmTarget where
  | named (r : Reg)
  | numeric (a : Offset)
  deriving DecidableEq, Repr

/-- The value of an assembler line: a number, or a field name in place of its value (R79). -/
inductive AsmValue where
  | number (v : Word)
  | INIT
  | START
  | DISCARD
  | UNB
  deriving DecidableEq, Repr

/-- A line of the assembler notation (R79): `WR target, value`; `RD target`; `TICK n` (not a transaction);
`-> ERR=e RDATA=v` (the expected response of the transaction before it). -/
inductive AsmLine where
  | wr (target : AsmTarget) (value : AsmValue)
  | rd (target : AsmTarget)
  | tick (n : Nat)
  | expect (err : Bool) (rdata : Word)
  deriving DecidableEq, Repr

end Sys2Proof
end

