-- ==== Sys2Proof/WellFormed.lean ====
section
/-! DEFINITION. Which operands are legal: the "Legal write values" of the register descriptions, 10_state.md R25, R26,
R28, R30, R31, R32. A well-formed instruction is one the decoder can produce; the port refuses every other write
with `ERR_VALUE`. -/

namespace Sys2Proof

/-- The operand is one of the legal write values of its register (R25 to R32). -/
def Instr.wellFormed : Instr → Bool
  | .wrCrcCtrl v => v.toNat ≤ 0x1
  | .wrCrcData v => v.toNat ≤ 0xFF
  | .rdCrcAcc => true
  | .wrCrcExpect v => v.toNat ≤ 0xFFFF
  | .rdCrcExpect => true
  | .rdCrcStatus => true
  | .wrTgBudget _ => true
  | .rdTgBudget => true
  | .wrTgMode v => v.toNat ≤ 0x1
  | .rdTgMode => true
  | .wrTgCtrl v => v.toNat ≤ 0x2
  | .rdTgStatus => true
  | .rdTgRemaining => true

end Sys2Proof
end

