-- ==== Sys2Proof/Decode.lean ====
section
/-! DEFINITION. The transaction word (30_encoding.md R70 to R77): its fields, the register map's offsets, the total
decoder with its five tests in the order of R72, the encoder of R80, and the table-word form the host asks for. -/

namespace Sys2Proof

/-- The code a refusal puts in `RDATA` (60_exceptions.md R191). -/
def ErrCause.code : ErrCause → Word
  | .format => 1
  | .align => 2
  | .addr => 3
  | .access => 4
  | .value => 5
  | .notStarted => 6

/-- The byte offset of each register (10_state.md R24). -/
def Reg.offset : Reg → Offset
  | .crcCtrl => 0x00
  | .crcData => 0x04
  | .crcAcc => 0x08
  | .crcExpect => 0x0C
  | .crcStatus => 0x10
  | .tgCtrl => 0x20
  | .tgBudget => 0x24
  | .tgMode => 0x28
  | .tgStatus => 0x2C
  | .tgRemaining => 0x30

/-- The ten registers in the order of the map (10_state.md R24). -/
def Reg.all : List Reg :=
  [.crcCtrl, .crcData, .crcAcc, .crcExpect, .crcStatus, .tgCtrl, .tgBudget, .tgMode, .tgStatus, .tgRemaining]

/-- The register at an offset, if one of the ten defined offsets (R72 test 3). -/
def Reg.ofOffset (a : Offset) : Option Reg :=
  Reg.all.find? (fun r => r.offset == a)

/-- `wmask` (R72): the bits of a register that a write may set. A register that cannot be written has none. -/
def Reg.writeMask : Reg → Word
  | .crcCtrl => 0x00000001
  | .crcData => 0x000000FF
  | .crcAcc => 0
  | .crcExpect => 0x0000FFFF
  | .crcStatus => 0
  | .tgCtrl => 0x00000003
  | .tgBudget => 0xFFFFFFFF
  | .tgMode => 0x00000001
  | .tgStatus => 0
  | .tgRemaining => 0

/-- The operation a write of `v` to a register is (R75), `none` where the register is read-only (R72 test 4). -/
def writeInstr (r : Reg) (v : Word) : Option Instr :=
  match r with
  | .crcCtrl => some (.wrCrcCtrl v)
  | .crcData => some (.wrCrcData v)
  | .crcAcc => none
  | .crcExpect => some (.wrCrcExpect v)
  | .crcStatus => none
  | .tgCtrl => some (.wrTgCtrl v)
  | .tgBudget => some (.wrTgBudget v)
  | .tgMode => some (.wrTgMode v)
  | .tgStatus => none
  | .tgRemaining => none

/-- The operation a read of a register is (R75), `none` where the register is write-only (R72 test 4). -/
def readInstr : Reg → Option Instr
  | .crcCtrl => none
  | .crcData => none
  | .crcAcc => some .rdCrcAcc
  | .crcExpect => some .rdCrcExpect
  | .crcStatus => some .rdCrcStatus
  | .tgCtrl => none
  | .tgBudget => some .rdTgBudget
  | .tgMode => some .rdTgMode
  | .tgStatus => some .rdTgStatus
  | .tgRemaining => some .rdTgRemaining

/-! ## The fields of a transaction word (R70) -/

/-- `WE`, bit 39: set for a write. -/
def fieldWE (t : TransactionWord) : Bool := t.getLsbD 39

/-- `RSV`, bit 38: must be 0. -/
def fieldRSV (t : TransactionWord) : Bool := t.getLsbD 38

/-- `ADDR`, bits 37 to 32. -/
def fieldADDR (t : TransactionWord) : Offset := t.extractLsb' 32 6

/-- `WDATA`, bits 31 to 0. -/
def fieldWDATA (t : TransactionWord) : Word := t.extractLsb' 0 32

/-- The header byte `H`, bits 39 to 32 (R70). -/
def headerByte (t : TransactionWord) : Byte := t.extractLsb' 32 8

/-- R72 test 5 on a write of `v` to `r`: a 1 in a reserved bit, or the value `0x3` for `TG_CTRL`. -/
def illegalValue (r : Reg) (v : Word) : Bool :=
  v &&& ~~~r.writeMask != 0 || (r == .tgCtrl && v == 0x3)

/-- Tests 4 and 5 of R72 on an access to a defined register. -/
def decodeAccess (we : Bool) (r : Reg) (v : Word) : Except ErrCause Instr :=
  if we then
    match writeInstr r v with
    | none => .error .access
    | some i => if illegalValue r v then .error .value else .ok i
  else
    match readInstr r with
    | none => .error .access
    | some i => .ok i

/-- The decoder (R72), total on all `2^40` words: the first test that fails names the cause. -/
def decode (t : TransactionWord) : Except ErrCause Instr :=
  if fieldRSV t then .error .format
  else if (fieldADDR t).extractLsb' 0 2 != 0 then .error .align
  else
    match Reg.ofOffset (fieldADDR t) with
    | none => .error .addr
    | some r => decodeAccess (fieldWE t) r (fieldWDATA t)

/-! ## Encoding (R80) -/

/-- The word of a write to an offset: `WE = 1`, `RSV = 0` (R80). -/
def writeWord (a : Offset) (v : Word) : TransactionWord := 1#1 ++ 0#1 ++ a ++ v

/-- The word of a read of an offset: `WE = 0`, `RSV = 0`, and `WDATA = 0` (R79, R80). -/
def readWord (a : Offset) : TransactionWord := 0#1 ++ 0#1 ++ a ++ 0#32

/-- The register an operation addresses (R75). -/
def Instr.reg : Instr → Reg
  | .wrCrcCtrl _ => .crcCtrl
  | .wrCrcData _ => .crcData
  | .rdCrcAcc => .crcAcc
  | .wrCrcExpect _ => .crcExpect
  | .rdCrcExpect => .crcExpect
  | .rdCrcStatus => .crcStatus
  | .wrTgBudget _ => .tgBudget
  | .rdTgBudget => .tgBudget
  | .wrTgMode _ => .tgMode
  | .rdTgMode => .tgMode
  | .wrTgCtrl _ => .tgCtrl
  | .rdTgStatus => .tgStatus
  | .rdTgRemaining => .tgRemaining

/-- The operand of a write (R74: "The only operand is `WDATA`."); a read has none. -/
def Instr.operand : Instr → Option Word
  | .wrCrcCtrl v => some v
  | .wrCrcData v => some v
  | .rdCrcAcc => none
  | .wrCrcExpect v => some v
  | .rdCrcExpect => none
  | .rdCrcStatus => none
  | .wrTgBudget v => some v
  | .rdTgBudget => none
  | .wrTgMode v => some v
  | .rdTgMode => none
  | .wrTgCtrl v => some v
  | .rdTgStatus => none
  | .rdTgRemaining => none

/-- The transaction word of an operation (R80). -/
def encode (i : Instr) : TransactionWord :=
  match i.operand with
  | some v => writeWord i.reg.offset v
  | none => readWord i.reg.offset

/-! ## Printed form and table words -/

/-- A transaction word written as bytes "most significant first, header byte then the four bytes of `WDATA`" (R70),
the spec's printing convention. -/
def transactionBytes (t : TransactionWord) : Bytes :=
  [t.extractLsb' 32 8, t.extractLsb' 24 8, t.extractLsb' 16 8, t.extractLsb' 8 8, t.extractLsb' 0 8]

/-- The transaction word that five printed bytes stand for (R70); no other number of bytes is one (R77). -/
def transactionOfBytes : Bytes → Option TransactionWord
  | [h, b3, b2, b1, b0] => some (h ++ b3 ++ b2 ++ b1 ++ b0)
  | _ => none

/-- Decoding from printed bytes: `none` where the bytes are no whole transaction word. -/
def decodeBytes (bs : Bytes) : Option (Except ErrCause Instr) :=
  (transactionOfBytes bs).map decode

/-- A word numbered as spec/opcode_table.json numbers it: bit 0 is bit 0 of the 40-bit transaction word, and every
bit above `nbits` is 0. -/
def tableWord (nbits w : Nat) : TransactionWord := BitVec.ofNat 40 (w % 2 ^ nbits)

/-- What the decoder reads from a table word, `none` where it refuses. -/
def decodeTableWord (nbits w : Nat) : Option Instr :=
  match decode (tableWord nbits w) with
  | .ok i => some i
  | .error _ => none

/-! ## Assembly (R79, R80) -/

/-- The offset an assembler line addresses (R79). -/
def AsmTarget.offset : AsmTarget → Offset
  | .named r => r.offset
  | .numeric a => a

/-- The value an assembler line gives, a field name standing for its value (R79). -/
def AsmValue.word : AsmValue → Word
  | .number v => v
  | .INIT => 0x1
  | .START => 0x1
  | .DISCARD => 0x2
  | .UNB => 0x1

end Sys2Proof
end

