-- ==== Sys2Proof/Config.lean ====
section
/-! DEFINITION. What the spec leaves open: the two OPEN parameters of 00_scope.md R6, as constants without a body
(nothing in Lean can see their values, so a claim holds for every admitted value), and the one launch value the model
has to name because the spec leaves it unspecified (R39). The FIXED parameters stand in Machine/Params.lean. -/

namespace Sys2Proof.Config

/-- `TICK_PERIOD` (R6, OPEN): the real time between two increments of `NOW`, in a unit the platform picks.
"no rule depends on it" (R6), and nothing in this model reads it. DESIGN CHOICE, safe: notes/assumptions/3.md. -/
opaque tickPeriod : Nat

/-- Which of the two admitted values `REM_FLOOR` has (R6, R131: "one of {0, 1} ticks"): `true` for 1, `false` for 0.
An opaque constant: every claim holds for both values. DESIGN CHOICE (its form), safe: notes/assumptions/2.md. -/
opaque remFloorIsOne : Bool

/-- The value of `NOW` in `State.reset`. The spec leaves it unspecified (R39, R222: "a free input below `2^64 - 1`").
`State.launch n` is the launch state for EVERY value `n`; `State.reset` is the one member of that family in which
`NOW` is this value. DESIGN CHOICE, unsafe: notes/assumptions/1.md. No statement rests on it. -/
def nowAtReset : Time := 0

end Sys2Proof.Config
end

