-- ==== Sys2Proof/Machine/Params.lean ====
section
/-! DEFINITION. The FIXED parameters of 00_scope.md R6. They stand under Machine/ and not in Config.lean because a
test could show one of them wrong (the CRC's constants are "from general knowledge, not in source", R102). -/

namespace Sys2Proof.Params

/-- `CRC_POLY_R` (R6, R100): x^16 + x^15 + x^2 + 1, least significant bit first, without the x^16 term. -/
def crcPolyR : Checksum := 0xA001

/-- `CRC_SEED` (R6, R101). -/
def crcSeed : Checksum := 0xFFFF

/-- `CRC_WIRE_BYTES` (R6): the width of the checksum field on the wire. -/
def crcWireBytes : Nat := 2

/-- `ECHO_LEN` (R6): the length of the echo prefix the checksum does not cover. -/
def echoLen : Nat := 4

/-- `ASK_DEFAULT_SIZE` (R6, R170). -/
def askDefaultSize : Nat := 64

/-- `REM_UNBOUNDED` (R6, R134): what `TG_REMAINING` reads when the budget is unbounded. -/
def remUnbounded : Word := 0xFFFFFFFF

/-- `REM_FLOOR` (R6, R131): one of 0 and 1, which of them is not known (Config.remFloorIsOne). -/
def remFloor : Word := if Config.remFloorIsOne then 1 else 0

end Sys2Proof.Params
end

