-- ==== Sys2Proof/Machine/State.lean ====
section
/-! DEFINITION. The state of the block: the seven elements of 10_state.md R20 and the model's own two fields for the
block's boundary (what the three agents of R7 do next, and the last response word), the ways a step can stop, and the
state right after reset (R39). -/

namespace Sys2Proof.Machine

/-- One act of one of the three agents of 00_scope.md R7: "An execution of the block is therefore a single sequence of
steps, each a transaction, a tick or a reset" (20_memory.md R58). -/
inductive Event where
  /-- The host issues a transaction word. -/
  | transaction (t : TransactionWord)
  /-- The time base increments `NOW`. -/
  | tick
  /-- The platform resets the block. -/
  | reset
  deriving DecidableEq, Repr

/-- A response word by its two fields (30_encoding.md R71): `ERR` and `RDATA`. -/
structure Response where
  err : Bool
  rdata : Word
  deriving DecidableEq, Repr

/-- The state: the seven elements of R20, then the model's own two fields. -/
structure State where
  /-- `CRC_ACC`, the CRC accumulator (R20, R27). -/
  crcAcc : Checksum
  /-- `CRC_EXPECT`, the checksum value to compare against (R20, R28). -/
  crcExpect : Checksum
  /-- `TG_BUDGET`, the finite budget in ticks (R20, R31). -/
  tgBudget : Word
  /-- `TG_UNB`, 1 when the budget is unbounded (R20, R32). -/
  tgUnb : Bool
  /-- `TG_STARTED`, 1 after a start and until a discard (R20, R30). -/
  tgStarted : Bool
  /-- `TG_START`, the value of `NOW` recorded by the last start (R20, R37). -/
  tgStart : Time
  /-- `NOW`, the monotonic time base (R20, R36). -/
  now : Time
  /-- MODEL'S OWN: the agents' acts still to come, the next one first (R7, R58).
  DESIGN CHOICE, safe: notes/assumptions/4.md. -/
  inputs : List Event
  /-- MODEL'S OWN: the response word of the last transaction, `none` before the first (R71).
  DESIGN CHOICE, safe: notes/assumptions/5.md. -/
  response : Option Response
  deriving DecidableEq, Repr

/-- Why a step can stop with a fault. -/
inductive Fault where
  /-- Raised by the time base's tick at `NOW = 2^64 - 1` (10_state.md R36: "the tick that would wrap it is outside this
  spec"; 93_implementation_defined.md U3: stuck). Safe: the machine stops where the spec gives no step. -/
  | nowAtTop
  deriving DecidableEq, Repr

/-- Why a step can have no meaning. -/
inductive Refusal where
  /-- An operation without a meaning in this model, raised by `exec` alone. No arm of `exec` raises it: every operation
  of the table has its meaning. Safe. (A transaction the BLOCK refuses is a next state with an error response, R190.) -/
  | notModelled (mnemonic : String)
  deriving DecidableEq, Repr

/-- The state right after reset (10_state.md R39), for every value `now` the unspecified time base may have:
"to be modelled as a free input of the launch state". No transaction has been issued or answered. -/
def State.launch (now : Time) : State where
  crcAcc := Params.crcSeed
  crcExpect := 0
  tgBudget := 0
  tgUnb := false
  tgStarted := false
  tgStart := 0
  now := now
  inputs := []
  response := none

/-- The machine right after reset: the launch state in which `NOW` is `Config.nowAtReset`
(DESIGN CHOICE, unsafe: notes/assumptions/1.md). -/
def State.reset : State := State.launch Config.nowAtReset

end Sys2Proof.Machine
end

