-- ==== Sys2Proof/Machine/Ops.lean ====
section
/-! DEFINITION. The named operations over the state: one setter per state element, the two ways a transaction ends
(`respond` and `raise`, 00_scope.md R11), the checked write the register operations share, and the effect of reset. -/

namespace Sys2Proof.Machine

/-- `CRC_ACC <- c`. -/
def State.setCrcAcc (s : State) (c : Checksum) : State := { s with crcAcc := c }

/-- `CRC_EXPECT <- c`. -/
def State.setCrcExpect (s : State) (c : Checksum) : State := { s with crcExpect := c }

/-- `TG_BUDGET <- v`. -/
def State.setTgBudget (s : State) (v : Word) : State := { s with tgBudget := v }

/-- `TG_UNB <- b`. -/
def State.setTgUnb (s : State) (b : Bool) : State := { s with tgUnb := b }

/-- The governor's `START`: `TG_START <- NOW`, `TG_STARTED <- 1` (41_timeout.md R139). -/
def State.startGovernor (s : State) : State := { s with tgStart := s.now, tgStarted := true }

/-- The governor's `DISCARD`: `TG_STARTED <- 0`, `TG_START` unchanged (41_timeout.md R139). -/
def State.discardGovernor (s : State) : State := { s with tgStarted := false }

/-- `NOW <- t`, used by the time base alone (10_state.md R36). -/
def State.setNow (s : State) (t : Time) : State := { s with now := t }

/-- The agents' remaining acts. -/
def State.setInputs (s : State) (es : List Event) : State := { s with inputs := es }

/-- The response the host sees (30_encoding.md R71). -/
def State.setResponse (s : State) (r : Response) : State := { s with response := some r }

/-- The 33-bit response word `P`: bit 32 is `ERR`, bits 31 to 0 are `RDATA` (30_encoding.md R71). -/
def Response.word (r : Response) : ResponseWord := BitVec.ofBool r.err ++ r.rdata

/-- The transaction ends with `ERR = 0` and `RDATA = v` (00_scope.md R11). -/
def respond (v : Word) (s : State) : Host.Outcome State Fault Refusal :=
  .next (s.setResponse { err := false, rdata := v })

/-- TAKING AN EXCEPTION on this block: the transaction is refused with `ERR = 1` and `RDATA` the cause's code, and
"changes no state element at all" (60_exceptions.md R190). "Nothing is saved, no control is transferred, no mode
changes"; there is no return (R194). -/
def raise (e : ErrCause) (s : State) : Host.Outcome State Fault Refusal :=
  .next (s.setResponse { err := true, rdata := e.code })

/-- A register write: refused with `ERR_VALUE` when its operand is illegal, else its effect and `respond(0)`
(the common shape of R104, R105, R107, R137, R139). -/
def checkedWrite (illegal : Bool) (effect : State → State) (s : State) : Host.Outcome State Fault Refusal :=
  if illegal then raise .value s else respond 0 (effect s)

/-- The effect of reset: "set every state element except `NOW` to the value of 10_state.md rule R39"
(70_reset_and_hazards.md R220). What the host has seen and what the agents do next are not the block's. -/
def resetBlock (s : State) : State :=
  { State.launch s.now with inputs := s.inputs, response := s.response }

end Sys2Proof.Machine
end

