-- ==== Sys2Proof/Machine/Operands.lean ====
section
/-! DEFINITION. The operand forms (30_encoding.md R74): the fields of `WDATA` each write takes (10_state.md R25 to R32),
the reserved-bit tests of the operations' own rules, and the zero extension of a narrower register on a read. -/

namespace Sys2Proof.Machine

/-- `zext_32` of a checksum register on a read (R74: `RDATA = zext_32(field)`). -/
def zextChecksum (c : Checksum) : Word := c.setWidth 32

/-- `zext_32` of a single bit on a read. -/
def zextBit (b : Bool) : Word := (BitVec.ofBool b).setWidth 32

/-- `CRC_CTRL.INIT`, bit 0 (R25). -/
def fieldINIT (v : Word) : Bool := v.getLsbD 0

/-- `CRC_DATA.BYTE`, bits 7 to 0 (R26). -/
def fieldBYTE (v : Word) : Byte := v.extractLsb' 0 8

/-- `CRC_EXPECT.EXPECT`, bits 15 to 0 (R28). -/
def fieldEXPECT (v : Word) : Checksum := v.extractLsb' 0 16

/-- `TG_MODE.UNB`, bit 0 (R32). -/
def fieldUNB (v : Word) : Bool := v.getLsbD 0

/-- `v[31:1] != 0` (R104 for `CRC_CTRL`, R137 for `TG_MODE`). -/
def reservedAbove1 (v : Word) : Bool := v.extractLsb' 1 31 != 0

/-- `v[31:2] != 0` (R139 for `TG_CTRL`). -/
def reservedAbove2 (v : Word) : Bool := v.extractLsb' 2 30 != 0

/-- `v[31:8] != 0` (R105 for `CRC_DATA`). -/
def reservedAbove8 (v : Word) : Bool := v.extractLsb' 8 24 != 0

/-- `v[31:16] != 0` (R107 for `CRC_EXPECT`). -/
def reservedAbove16 (v : Word) : Bool := v.extractLsb' 16 16 != 0

end Sys2Proof.Machine
end

