-- ==== Sys2Proof/Machine/Flags.lean ====
section
/-! DEFINITION. The four status bits (10_state.md R23), "each a pure function of the state at the moment a status
register is read, none of them stored", and the two functions of time they rest on (41_timeout.md R130, R132). -/

namespace Sys2Proof.Machine

/-- `MATCH = (CRC_ACC = CRC_EXPECT)` (R23, R29). -/
def matchBit (s : State) : Bool := s.crcAcc == s.crcExpect

/-- `elapsed(now, start) = now - start`, a natural number (R130). The rule is stated for `start <= now`, which holds in
every state a run reaches (R38); elsewhere the truncated difference 0 is the model's (DESIGN CHOICE, unsafe only for a
state no run reaches: notes/assumptions/6.md). -/
def elapsed (now start : Time) : Nat := now.toNat - start.toNat

/-- `expired(e, budget, unb)` (R132): never when unbounded, else once elapsed time reaches the budget. -/
def expired (e : Nat) (budget : Word) (unb : Bool) : Bool := !unb && decide (budget.toNat ≤ e)

/-- The governor's elapsed time at this instant. -/
def State.elapsed (s : State) : Nat := Machine.elapsed s.now s.tgStart

/-- `EXPIRED` (R33, R140): 0 while no governor is started. -/
def expiredBit (s : State) : Bool := s.tgStarted && expired s.elapsed s.tgBudget s.tgUnb

/-- The word `RD TG_STATUS` responds: 29 zero bits, `UNBOUNDED`, `EXPIRED`, `STARTED` (R140). -/
def tgStatusWord (s : State) : Word :=
  0#29 ++ BitVec.ofBool s.tgUnb ++ BitVec.ofBool (expiredBit s) ++ BitVec.ofBool s.tgStarted

end Sys2Proof.Machine
end

