-- ==== Sys2Proof/Machine/Crc.lean ====
section
/-! DEFINITION. The CRC unit (40_crc.md): the checksum function and its wire form, and the meanings of the six register
operations of section 2, each from its own rule's pseudocode. -/

namespace Sys2Proof.Machine

/-- One round of `crc_step` (R100): shift right by one and, when the bit shifted out was 1, xor with `CRC_POLY_R`. -/
def crcRound (c : Checksum) : Checksum :=
  if c.getLsbD 0 then (c >>> 1) ^^^ Params.crcPolyR else c >>> 1

/-- `n` rounds. -/
def crcRounds : Nat → Checksum → Checksum
  | 0, c => c
  | n + 1, c => crcRounds n (crcRound c)

/-- `crc_step(c, b)` (R100): xor the byte into the low byte, then eight rounds. -/
def crcStep (c : Checksum) (b : Byte) : Checksum := crcRounds 8 (c ^^^ b.setWidth 16)

/-- The left fold of `crc_step` over bytes from a given accumulator. -/
def crcFold (c : Checksum) (bs : Bytes) : Checksum := bs.foldl crcStep c

/-- `crc16(s)` (R101): the fold from `CRC_SEED`. `CRC_XOROUT` is 0: "No final xor is applied and the result is not
bit-reversed or byte-swapped." -/
def crc16 (bs : Bytes) : Checksum := crcFold Params.crcSeed bs

/-- `TBL[i] = crc_step(0x0000, i)` (R114). -/
def crcTable (i : Byte) : Checksum := crcStep 0 i

/-- `crc_wire(c) = [c[7:0], c[15:8]]` (R111). -/
def crcWire (c : Checksum) : Bytes := [c.extractLsb' 0 8, c.extractLsb' 8 8]

/-- `crc_unwire([x, y]) = {y, x}` (R111). -/
def crcUnwire (x y : Byte) : Checksum := y ++ x

/-- `WR CRC_CTRL, v` (R104). -/
def execWrCrcCtrl (v : Word) (s : State) : Host.Outcome State Fault Refusal :=
  checkedWrite (reservedAbove1 v) (fun s => if fieldINIT v then s.setCrcAcc Params.crcSeed else s) s

/-- `WR CRC_DATA, v` (R105). -/
def execWrCrcData (v : Word) (s : State) : Host.Outcome State Fault Refusal :=
  checkedWrite (reservedAbove8 v) (fun s => s.setCrcAcc (crcStep s.crcAcc (fieldBYTE v))) s

/-- `RD CRC_ACC` (R106). -/
def execRdCrcAcc (s : State) : Host.Outcome State Fault Refusal :=
  respond (zextChecksum s.crcAcc) s

/-- `WR CRC_EXPECT, v` (R107). -/
def execWrCrcExpect (v : Word) (s : State) : Host.Outcome State Fault Refusal :=
  checkedWrite (reservedAbove16 v) (fun s => s.setCrcExpect (fieldEXPECT v)) s

/-- `RD CRC_EXPECT` (R108). -/
def execRdCrcExpect (s : State) : Host.Outcome State Fault Refusal :=
  respond (zextChecksum s.crcExpect) s

/-- `RD CRC_STATUS` (R109). -/
def execRdCrcStatus (s : State) : Host.Outcome State Fault Refusal :=
  respond (zextBit (matchBit s)) s

end Sys2Proof.Machine
end

