-- ==== Sys2Proof/Machine/Tg.lean ====
section
/-! DEFINITION. The TG unit (41_timeout.md): the function `remaining` and the meanings of the seven register operations
of section 2, each from its own rule's pseudocode. -/

namespace Sys2Proof.Machine

/-- `remaining(e, budget)` (R131) for the floor `floor`: the spec's `max(REM_FLOOR, budget - e)` when `e < budget`, where
the difference is at least 1 and so at least either admitted floor, and `REM_FLOOR` when `e >= budget`. The maximum
itself is stated by Obligations.RemainingIsBudgetMinusElapsedFloored; it is left out here because a comparison with the
unknown floor would keep the kernel from evaluating a remaining time that does not depend on it. -/
def remaining (floor : Word) (e : Nat) (budget : Word) : Word :=
  if e < budget.toNat then budget - BitVec.ofNat 32 e else floor

/-- `WR TG_BUDGET, v` (R135): every value is legal. -/
def execWrTgBudget (v : Word) (s : State) : Host.Outcome State Fault Refusal :=
  respond 0 (s.setTgBudget v)

/-- `RD TG_BUDGET` (R136). -/
def execRdTgBudget (s : State) : Host.Outcome State Fault Refusal :=
  respond s.tgBudget s

/-- `WR TG_MODE, v` (R137). -/
def execWrTgMode (v : Word) (s : State) : Host.Outcome State Fault Refusal :=
  checkedWrite (reservedAbove1 v) (fun s => s.setTgUnb (fieldUNB v)) s

/-- `RD TG_MODE` (R138). -/
def execRdTgMode (s : State) : Host.Outcome State Fault Refusal :=
  respond (zextBit s.tgUnb) s

/-- The effect of a legal write to `TG_CTRL` (R139): start, discard, or nothing. -/
def tgCommand (v : Word) (s : State) : State :=
  if v = 0x1 then s.startGovernor else if v = 0x2 then s.discardGovernor else s

/-- `WR TG_CTRL, v` (R139). -/
def execWrTgCtrl (v : Word) (s : State) : Host.Outcome State Fault Refusal :=
  checkedWrite (reservedAbove2 v || v == 0x3) (tgCommand v) s

/-- `RD TG_STATUS` (R140): `NOW` is sampled once, all three bits are of one instant. -/
def execRdTgStatus (s : State) : Host.Outcome State Fault Refusal :=
  respond (tgStatusWord s) s

/-- `RD TG_REMAINING` (R141): "the only state-dependent refusal in the block". -/
def execRdTgRemaining (s : State) : Host.Outcome State Fault Refusal :=
  if !s.tgStarted then raise .notStarted s
  else if s.tgUnb then respond Params.remUnbounded s
  else respond (remaining Params.remFloor s.elapsed s.tgBudget) s

end Sys2Proof.Machine
end

