-- ==== Sys2Proof/Machine/Dispatch.lean ====
section
/-! DEFINITION. One arm per operation of spec/opcode_table.json (30_encoding.md R75), each a direct call of its meaning. -/

namespace Sys2Proof.Machine

def exec (i : Instr) (s : State) : Host.Outcome State Fault Refusal :=
  match i with
  | .wrCrcCtrl v => Sys2Proof.Machine.execWrCrcCtrl v s
  | .wrCrcData v => Sys2Proof.Machine.execWrCrcData v s
  | .rdCrcAcc => Sys2Proof.Machine.execRdCrcAcc s
  | .wrCrcExpect v => Sys2Proof.Machine.execWrCrcExpect v s
  | .rdCrcExpect => Sys2Proof.Machine.execRdCrcExpect s
  | .rdCrcStatus => Sys2Proof.Machine.execRdCrcStatus s
  | .wrTgBudget v => Sys2Proof.Machine.execWrTgBudget v s
  | .rdTgBudget => Sys2Proof.Machine.execRdTgBudget s
  | .wrTgMode v => Sys2Proof.Machine.execWrTgMode v s
  | .rdTgMode => Sys2Proof.Machine.execRdTgMode s
  | .wrTgCtrl v => Sys2Proof.Machine.execWrTgCtrl v s
  | .rdTgStatus => Sys2Proof.Machine.execRdTgStatus s
  | .rdTgRemaining => Sys2Proof.Machine.execRdTgRemaining s

end Sys2Proof.Machine
end

