-- ==== Sys2Proof/Machine/Port.lean ====
section
/-! DEFINITION. One step of each of the three agents (00_scope.md R7): the host's transaction on the register port, the
time base's tick, the platform's reset; and the fold of them over a sequence (20_memory.md R58). -/

namespace Sys2Proof.Machine

/-- A host transaction (00_scope.md R8): the word is decoded (R72) and its operation performed, or it is refused. -/
def transact (t : TransactionWord) (s : State) : Host.Outcome State Fault Refusal :=
  match decode t with
  | .ok i => exec i s
  | .error e => raise e s

/-- A tick (10_state.md R36): `NOW` advances by exactly 1; the time base has no step at `NOW = 2^64 - 1`. -/
def tickNow (s : State) : Host.Outcome State Fault Refusal :=
  if s.now = BitVec.allOnes 64 then .fault .nowAtTop else .next (s.setNow (s.now + 1))

/-- One act of one agent. -/
def applyEvent (e : Event) (s : State) : Host.Outcome State Fault Refusal :=
  match e with
  | .transaction t => transact t s
  | .tick => tickNow s
  | .reset => .next (resetBlock s)

/-- "the state after the sequence is the fold of the step functions over it" (20_memory.md R58), stopping at the first
fault. -/
def applyEvents : List Event → State → Host.Outcome State Fault Refusal
  | [], s => .next s
  | e :: es, s =>
    match applyEvent e s with
    | .next s' => applyEvents es s'
    | .fault f => .fault f
    | .refused r => .refused r

/-- `s` with one more act of an agent to come before all others. -/
def State.prependInput (s : State) (e : Event) : State := s.setInputs (e :: s.inputs)

end Sys2Proof.Machine
end

