-- ==== Sys2Proof/Machine/Step.lean ====
section
/-! DEFINITION. One step of the machine: the next act of an agent, taken from the front of `inputs`. -/

namespace Sys2Proof.Machine

/-- One step: the next act in `inputs`. With no act to come nothing changes: "The block itself never acts spontaneously"
(00_scope.md R7). DESIGN CHOICE, safe: notes/assumptions/4.md. -/
def step (s : State) : Host.Outcome State Fault Refusal :=
  match s.inputs with
  | [] => .next s
  | e :: es => applyEvent e (s.setInputs es)

/-- `s` with the table word as the host's next transaction: the machine has no program counter and fetches nothing
(10_state.md R22), so the word comes before all other acts still to come. -/
def State.withFetchWord (s : State) (nbits w : Nat) : State :=
  s.prependInput (.transaction (tableWord nbits w))

end Sys2Proof.Machine
end

