-- ==== Sys2Proof/Machine/Frame.lean ====
section
/-! DEFINITION. The host-side frame functions (42_frame.md) over byte sequences: "host-side reference functions" that
"read and write no state of the block" (R160). The slices are those of 00_scope.md R10, clamped. -/

namespace Sys2Proof.Machine

/-! ## Errors (R161) -/

/-- The classes the source's taxonomy puts the frame functions' errors in (R161). -/
inductive FrameErrorClass where
  | writeError
  | readError
  | protocolError
  deriving DecidableEq, Repr

/-- The errors the frame functions raise (R161). None is an error response of the block (R196). -/
inductive FrameError where
  | frameTooShortToSend
  | malformedFrame
  | checksumMismatch (computed received : Checksum)
  | deviceCommandError
  | deviceChecksumError
  | deviceRangeError
  deriving DecidableEq, Repr

/-- The class of each error (R161). -/
def FrameError.errorClass : FrameError → FrameErrorClass
  | .frameTooShortToSend => .writeError
  | .malformedFrame => .readError
  | .checksumMismatch _ _ => .protocolError
  | .deviceCommandError => .protocolError
  | .deviceChecksumError => .protocolError
  | .deviceRangeError => .protocolError

/-! ## Slices (00_scope.md R10) -/

/-- `s[:-2]`: all bytes but the last two, empty when there are at most two. -/
def sliceButLastTwo (s : Bytes) : Bytes := s.take (s.length - 2)

/-- `s[-2:]`: the last two bytes, the whole sequence when there are at most two. -/
def sliceLastTwo (s : Bytes) : Bytes := s.drop (s.length - 2)

/-- `data[4:]`: what follows the echo (R112: the only bytes the checksum covers). -/
def payloadOf (data : Bytes) : Bytes := data.drop Params.echoLen

/-- `data[:4]`: the echo. -/
def echoOf (data : Bytes) : Bytes := data.take Params.echoLen

/-! ## Sending (R162) -/

/-- `frame_encode(data)` (R162). -/
def frameEncode (data : Bytes) : Except FrameError Bytes :=
  if data.length < Params.echoLen then .error .frameTooShortToSend
  else .ok (data ++ crcWire (crc16 (payloadOf data)))

/-! ## Receiving (R163 to R165) -/

/-- `strip_leading_zeros(s)` (R163): without its longest prefix of zero bytes. -/
def stripLeadingZeros (s : Bytes) : Bytes := s.dropWhile (· == 0)

/-- The loop of `frame_acquire` (R164) with the stream `rx` and the stripped buffer `buf`: the frame and what is left of
the stream, or `none` where a transport read does not return because the stream is exhausted. Every pass takes at least
one byte, so `rx.length` bounds the passes; `fuel` counts them. -/
def acquireLoop (target : Nat) : Nat → Bytes → Bytes → Option (Bytes × Bytes)
  | fuel, buf, rx =>
    if target ≤ buf.length then some (buf, rx)
    else
      match fuel with
      | 0 => none
      | fuel + 1 =>
        let k := max 1 (target - buf.length)
        if rx.length < k then none
        else acquireLoop target fuel (stripLeadingZeros (buf ++ rx.take k)) (rx.drop k)

/-- `frame_acquire(rx, size)` (R164): the frame and the bytes not consumed, `none` where it does not return
(93_implementation_defined.md U20: "A model of the function takes a finite `rx` and returns "no result""). -/
def frameAcquire (rx : Bytes) (size : Nat) : Option (Bytes × Bytes) :=
  acquireLoop (size + Params.crcWireBytes) rx.length [] rx

/-- The sentinel echo "errc" (R88). -/
def sentinelErrc : Bytes := [0x65, 0x72, 0x72, 0x63]

/-- The sentinel echo "errd" (R88). -/
def sentinelErrd : Bytes := [0x65, 0x72, 0x72, 0x64]

/-- The sentinel echo "errv" (R88). -/
def sentinelErrv : Bytes := [0x65, 0x72, 0x72, 0x76]

/-- Whether an echo is one of the three sentinels (R88). -/
def isSentinel (echo : Bytes) : Bool := echo == sentinelErrc || echo == sentinelErrd || echo == sentinelErrv

/-- Steps 4 and 5 of `frame_decode` (R165): the echo is inspected, then dropped; it is not compared with any
command (R168). -/
def decodeEcho (data : Bytes) : Except FrameError Bytes :=
  if echoOf data = sentinelErrc then .error .deviceCommandError
  else if echoOf data = sentinelErrd then .error .deviceChecksumError
  else if echoOf data = sentinelErrv then .error .deviceRangeError
  else .ok (payloadOf data)

/-- The little-endian checksum at the end of a frame, `none` where the frame is shorter than it (R165 steps 1 and 2). -/
def receivedChecksum (frame : Bytes) : Option Checksum :=
  match sliceLastTwo frame with
  | [x, y] => some (crcUnwire x y)
  | _ => none

/-- `frame_decode(frame)` (R165): the checksum is verified before the echo is inspected (R167). -/
def frameDecode (frame : Bytes) : Except FrameError Bytes :=
  match receivedChecksum frame with
  | none => .error .malformedFrame
  | some received =>
    let data := sliceButLastTwo frame
    let computed := crc16 (payloadOf data)
    if computed = received then decodeEcho data else .error (.checksumMismatch computed received)

/-! ## `ask` (R170) -/

/-- The read size of `ask`: `maximum_bytes` if it is above 0, else 64 (R170). -/
def askSize (maximumBytes : Int) : Nat :=
  if 0 < maximumBytes then maximumBytes.toNat else Params.askDefaultSize

/-- What an `ask` whose message could be sent leads to: the bytes handed to the transport, and, if the receive returns,
the decoded reply with the bytes of the stream it did not consume. -/
structure AskOutcome where
  sent : Bytes
  reply : Option (Except FrameError Bytes × Bytes)

/-- `ask(data, eol, maximum_bytes)` (R170): `frame_encode` and send, then `frame_acquire`, then `frame_decode`; `eol` is
ignored, so it is no argument here. `rx` is the stream that arrives after the send. -/
def ask (data : Bytes) (maximumBytes : Int) (rx : Bytes) : Except FrameError AskOutcome :=
  match frameEncode data with
  | .error e => .error e
  | .ok sent =>
    .ok { sent := sent, reply := (frameAcquire rx (askSize maximumBytes)).map fun (f, rest) => (frameDecode f, rest) }

end Sys2Proof.Machine
end

