-- ==== Sys2Proof/Machine/HostSide.lean ====
section
/-! DEFINITION. The host's side of the port: the pseudo-instructions of 30_encoding.md R81 ("Each is a fixed sequence of
transactions performed by the host"), the two frame functions as sequences of transactions (42_frame.md R171, R172), and
the assembler notation's lines as events (R79, R80). -/

namespace Sys2Proof.Machine

/-- `WR <register>, v` as a transaction word (R80). -/
def wr (r : Reg) (v : Word) : TransactionWord := writeWord r.offset v

/-- `RD <register>` as a transaction word (R80). -/
def rd (r : Reg) : TransactionWord := readWord r.offset

/-- The host issues transactions one after another, with no tick and no reset between. -/
def hostRun (ts : List TransactionWord) (s : State) : Host.Outcome State Fault Refusal :=
  applyEvents (ts.map .transaction) s

/-! ## Pseudo-instructions (R81) -/

/-- `CRC16.BEGIN`. -/
def crc16Begin : List TransactionWord := [wr .crcCtrl 0x1]

/-- `CRC16.BYTES b[0..n-1]`: no transaction when there is no byte. -/
def crc16Bytes (bs : Bytes) : List TransactionWord := bs.map fun b => wr .crcData (b.setWidth 32)

/-- `CRC16.RESULT`. -/
def crc16Result : List TransactionWord := [rd .crcAcc]

/-- `CRC16 b[0..n-1]`. -/
def crc16Sequence (bs : Bytes) : List TransactionWord := crc16Begin ++ crc16Bytes bs ++ crc16Result

/-- The checksum in the response of a `RD CRC_ACC` or `RD CRC_EXPECT`: `RDATA[15:0]` (R81, R106, R108). -/
def Response.checksum (r : Response) : Checksum := r.rdata.extractLsb' 0 16

/-- `CRC16.WIRE`, from the response of its `RD CRC_ACC`: `[RDATA[7:0], RDATA[15:8]]`. -/
def Response.wire (r : Response) : Bytes := [r.rdata.extractLsb' 0 8, r.rdata.extractLsb' 8 8]

/-- `CRC16.CHECK lo, hi`. -/
def crc16Check (lo hi : Byte) : List TransactionWord := [wr .crcExpect ((hi ++ lo).setWidth 32), rd .crcStatus]

/-- The result of `CRC16.CHECK`: `MATCH`. -/
def Response.matched (r : Response) : Bool := r.rdata.getLsbD 0

/-- `TG.CONFIG budget`. -/
def tgConfigBudget (budget : Word) : List TransactionWord := [wr .tgMode 0x0, wr .tgBudget budget]

/-- `TG.CONFIG unbounded`. -/
def tgConfigUnbounded : List TransactionWord := [wr .tgMode 0x1]

/-- `TG.START`. -/
def tgStart : List TransactionWord := [wr .tgCtrl 0x1]

/-- `TG.HAS_EXPIRED`. -/
def tgHasExpired : List TransactionWord := [rd .tgStatus]

/-- The result of `TG.HAS_EXPIRED` (R81, R82): "defined only when `RDATA[0] = 1`", then `RDATA[1]`. -/
def Response.hasExpired (r : Response) : Option Bool :=
  if r.rdata.getLsbD 0 then some (r.rdata.getLsbD 1) else none

/-- `TG.REMAINING`. -/
def tgRemaining : List TransactionWord := [rd .tgRemaining]

/-- The result of `TG.REMAINING`: `RDATA`, or no number where the read is refused. -/
def Response.remainingTicks (r : Response) : Option Word := if r.err then none else some r.rdata

/-- `TG.DISCARD`. -/
def tgDiscard : List TransactionWord := [wr .tgCtrl 0x2]

/-! ## The frame functions with the block (42_frame.md R171, R172) -/

/-- The transactions of sending `data` (R171): the four echo bytes are never written to `CRC_DATA`. -/
def sendSequence (data : Bytes) : List TransactionWord := crc16Sequence (payloadOf data)

/-- The bytes the host then sends (R171). -/
def sentBytes (data : Bytes) (r : Response) : Bytes := data ++ r.wire

/-- The transactions of checking a stripped frame of at least two bytes, up to the answer `MATCH` (R172). -/
def checkSequence (frame : Bytes) : List TransactionWord :=
  crc16Begin ++ crc16Bytes (payloadOf (sliceButLastTwo frame)) ++
    match sliceLastTwo frame with
    | [x, y] => crc16Check x y
    | _ => []

/-- Transactions one after another, with the response the host sees to the last of them. -/
def hostAnswer (ts : List TransactionWord) (s : State) : Option (State × Response) :=
  match hostRun ts s with
  | .next t => t.response.map fun r => (t, r)
  | .fault _ => none
  | .refused _ => none

/-- The host's reads for the error report (R172): `RD CRC_ACC` gives `computed`, `RD CRC_EXPECT` gives `received`. -/
def checkReport (s : State) : Option (State × FrameError) :=
  match hostAnswer [rd .crcAcc] s with
  | none => none
  | some (t, computed) =>
    match hostAnswer [rd .crcExpect] t with
    | none => none
    | some (u, received) => some (u, .checksumMismatch computed.checksum received.checksum)

/-- Checking a stripped frame with the block, whole (R172): the transactions of `checkSequence`, then, on `MATCH = 0`
alone, the reads of the error report. R172 gives it for frames of at least two bytes; `none` for a shorter one
(notes/assumptions/14.md). -/
def checkFrame (frame : Bytes) (s : State) : Option (State × Except FrameError Unit) :=
  if frame.length < Params.crcWireBytes then none
  else
    match hostAnswer (checkSequence frame) s with
    | none => none
    | some (t, status) =>
      if status.matched then some (t, .ok ()) else (checkReport t).map fun (u, e) => (u, .error e)

/-! ## The assembler notation (30_encoding.md R79, R80) -/

/-- The events a line stands for: a transaction, `n` ticks, or none for an expected response. -/
def assemble : AsmLine → List Event
  | .wr a v => [.transaction (writeWord a.offset v.word)]
  | .rd a => [.transaction (readWord a.offset)]
  | .tick n => List.replicate n .tick
  | .expect _ _ => []

/-- The expected response of a line, if it states one. -/
def expectedResponse : AsmLine → Option Response
  | .wr _ _ => none
  | .rd _ => none
  | .tick _ => none
  | .expect e v => some { err := e, rdata := v }

/-- Runs assembler lines from a state: the final state when every stated response is the last transaction's response,
`none` where one is not, or where a step stops. -/
def runLines : List AsmLine → State → Option State
  | [], s => some s
  | l :: ls, s =>
    match applyEvents (assemble l) s with
    | .next s' =>
      match expectedResponse l with
      | none => runLines ls s'
      | some r => if s'.response = some r then runLines ls s' else none
    | .fault _ => none
    | .refused _ => none

end Sys2Proof.Machine
end

