-- ==== Sys2Proof/Safety.lean ====
section
/-! DEFINITION. What the claims speak of: the machine's invariant (10_state.md R38), the classes of operations and of
events the laws name (40_crc.md R110; 41_timeout.md R143), and a flipped bit of a byte sequence (40_crc.md R116). -/

namespace Sys2Proof.Machine

/-- R38: `TG_STARTED = 1` implies `TG_START <= NOW`. -/
abbrev State.Inv (s : State) : Prop := s.tgStarted = true → s.tgStart.toNat ≤ s.now.toNat

/-- Two states have the same CRC unit: the elements `CRC_ACC` and `CRC_EXPECT`. -/
def sameCrcUnit (s t : State) : Prop := s.crcAcc = t.crcAcc ∧ s.crcExpect = t.crcExpect

/-- Two states have the same TG unit, the time base among it: the other five elements of R20. -/
def sameTgUnit (s t : State) : Prop :=
  s.tgBudget = t.tgBudget ∧ s.tgUnb = t.tgUnb ∧ s.tgStarted = t.tgStarted ∧ s.tgStart = t.tgStart ∧ s.now = t.now

/-- The six operations of the CRC unit (R75). -/
def isCrcOperation : Instr → Bool
  | .wrCrcCtrl _ | .wrCrcData _ | .rdCrcAcc | .wrCrcExpect _ | .rdCrcExpect | .rdCrcStatus => true
  | .wrTgBudget _ | .rdTgBudget | .wrTgMode _ | .rdTgMode | .wrTgCtrl _ | .rdTgStatus | .rdTgRemaining => false

/-- The operations that are reads (R55). -/
def isRead : Instr → Bool
  | .rdCrcAcc | .rdCrcExpect | .rdCrcStatus | .rdTgBudget | .rdTgMode | .rdTgStatus | .rdTgRemaining => true
  | .wrCrcCtrl _ | .wrCrcData _ | .wrCrcExpect _ | .wrTgBudget _ | .wrTgMode _ | .wrTgCtrl _ => false

/-- The operation an event performs, if it is a transaction the decoder accepts. -/
def Event.operation : Event → Option Instr
  | .transaction t => (decode t).toOption
  | .tick => none
  | .reset => none

/-- The operation is a `WR CRC_CTRL` with `INIT = 1` (R104). -/
def isInitWrite : Instr → Bool
  | .wrCrcCtrl v => fieldINIT v
  | .wrCrcData _ | .rdCrcAcc | .wrCrcExpect _ | .rdCrcExpect | .rdCrcStatus => false
  | .wrTgBudget _ | .rdTgBudget | .wrTgMode _ | .rdTgMode | .wrTgCtrl _ | .rdTgStatus | .rdTgRemaining => false

/-- The byte the operation feeds to the CRC unit (R105). -/
def byteFedBy : Instr → Option Byte
  | .wrCrcData v => some (fieldBYTE v)
  | .wrCrcCtrl _ | .rdCrcAcc | .wrCrcExpect _ | .rdCrcExpect | .rdCrcStatus => none
  | .wrTgBudget _ | .rdTgBudget | .wrTgMode _ | .rdTgMode | .wrTgCtrl _ | .rdTgStatus | .rdTgRemaining => none

/-- The operation is a write to `TG_BUDGET`, `TG_MODE` or `TG_CTRL`. -/
def writesGovernor : Instr → Bool
  | .wrTgBudget _ | .wrTgMode _ | .wrTgCtrl _ => true
  | .rdTgBudget | .rdTgMode | .rdTgStatus | .rdTgRemaining => false
  | .wrCrcCtrl _ | .wrCrcData _ | .rdCrcAcc | .wrCrcExpect _ | .rdCrcExpect | .rdCrcStatus => false

/-- The event restarts the checksum: a reset, or an accepted `WR CRC_CTRL` with `INIT = 1` (R110). -/
def restartsCrc (e : Event) : Bool := e == .reset || e.operation.any isInitWrite

/-- The byte an event feeds to the CRC unit: that of an accepted `WR CRC_DATA` (R110). -/
def fedByte (e : Event) : Option Byte := e.operation.bind byteFedBy

/-- The event leaves the governor alone: no reset and no accepted write to `TG_BUDGET`, `TG_MODE` or `TG_CTRL`
(R143: "no write to `TG_BUDGET`, `TG_MODE` or `TG_CTRL` and no reset intervenes"). -/
def leavesGovernor (e : Event) : Bool := e != .reset && !e.operation.any writesGovernor

/-- The number of ticks among events. -/
def tickCount (es : List Event) : Nat := es.count .tick

/-- A byte sequence with bit `j` of byte `i` flipped (R116). -/
def flipBit (bs : Bytes) (i : Nat) (j : Fin 8) : Bytes := bs.modify i fun b => b ^^^ BitVec.twoPow 8 j

end Sys2Proof.Machine
end

