-- ==== Sys2Proof/Certificates/Slice0/Obligations.lean ====
section
/-! DEFINITION. The statements for the provers, one per numbered rule (or group of rules) of spec/ that says what an
operation, an agent or a host-side function does. A next state is written out whole (`{ s with ... }`), so each result
statement is its own frame: every element not named is unchanged. -/

open Sys2Proof Sys2Proof.Machine

/-! ## Encoding (30_encoding.md) -/

/-- R72, R75, R80: every well-formed operation is read back from its own transaction word, with every operand. -/
def Obligations.EncodedInstructionDecodesBack : Prop :=
  ∀ i : Instr, i.wellFormed = true → decode (encode i) = .ok i

/-- R70, R72, R74: whatever the decoder accepts is well formed and has the header byte of its operation; a write is
exactly its own encoding; of a read every `WDATA` gives the same operation. -/
def Obligations.AcceptedWordIsItsOperationsEncoding : Prop :=
  ∀ (t : TransactionWord) (i : Instr), decode t = .ok i →
    i.wellFormed = true ∧ headerByte (encode i) = headerByte t ∧
    (t.getLsbD 39 = true → encode i = t) ∧
    (t.getLsbD 39 = false → ∀ d : Word, decode (headerByte t ++ d) = .ok i)

/-- R73: the thirteen header bytes each select their operation (an illegal operand of a write is `ERR_VALUE`, R72 test
5), and every other header byte is refused by one of tests 1 to 4, whatever `WDATA` is. -/
def Obligations.OnlyThirteenHeadersSelectOperations : Prop :=
  (∀ d : Word,
    decode (0x80#8 ++ d) = (if d ≤ 0x1 then .ok (.wrCrcCtrl d) else .error .value) ∧
    decode (0x84#8 ++ d) = (if d ≤ 0xFF then .ok (.wrCrcData d) else .error .value) ∧
    decode (0x08#8 ++ d) = .ok .rdCrcAcc ∧
    decode (0x8C#8 ++ d) = (if d ≤ 0xFFFF then .ok (.wrCrcExpect d) else .error .value) ∧
    decode (0x0C#8 ++ d) = .ok .rdCrcExpect ∧
    decode (0x10#8 ++ d) = .ok .rdCrcStatus ∧
    decode (0xA0#8 ++ d) = (if d ≤ 0x2 then .ok (.wrTgCtrl d) else .error .value) ∧
    decode (0xA4#8 ++ d) = .ok (.wrTgBudget d) ∧
    decode (0x24#8 ++ d) = .ok .rdTgBudget ∧
    decode (0xA8#8 ++ d) = (if d ≤ 0x1 then .ok (.wrTgMode d) else .error .value) ∧
    decode (0x28#8 ++ d) = .ok .rdTgMode ∧
    decode (0x2C#8 ++ d) = .ok .rdTgStatus ∧
    decode (0x30#8 ++ d) = .ok .rdTgRemaining) ∧
  ∀ h : Byte,
    h ∉ [0x80, 0x84, 0x08, 0x8C, 0x0C, 0x10, 0xA0, 0xA4, 0x24, 0xA8, 0x28, 0x2C, 0x30] →
    ∃ e ∈ [ErrCause.format, .align, .addr, .access], ∀ d : Word, decode (h ++ d) = .error e

/-- R80, R79: words the spec writes out decode to the operations it writes them for. -/
def Obligations.SpecExampleWordsDecode : Prop :=
  decode 0x8400000031 = .ok (.wrCrcData 0x31) ∧ decode 0x0800000000 = .ok .rdCrcAcc ∧
  decode 0xA400000064 = .ok (.wrTgBudget 0x64) ∧ decode 0xA000000001 = .ok (.wrTgCtrl 0x1) ∧
  decode 0x8C00004B37 = .ok (.wrCrcExpect 0x4B37) ∧ decode 0x08DEADBEEF = .ok .rdCrcAcc

/-! ## Refusals (60_exceptions.md) -/

/-- R76 with R72, R191, R193: an illegal word is refused with the code of the first failing test, (a) to (e), and nothing
but the response changes; a word that is no operation with a legal operand is always refused; the two legal writes that
do nothing are performed. -/
def Obligations.IllegalWordIsRefusedByFirstFailingTest : Prop :=
  ∀ (t : TransactionWord) (s : State),
    let we := t.getLsbD 39
    let rsv := t.getLsbD 38
    let addr := t.extractLsb' 32 6
    let v := t.extractLsb' 0 32
    let refusedWith (code : Word) := transact t s = .next { s with response := some ⟨true, code⟩ }
    (rsv = true → refusedWith 1) ∧
    (rsv = false → addr.extractLsb' 0 2 ≠ 0 → refusedWith 2) ∧
    (rsv = false → addr ∈ [0x14#6, 0x18#6, 0x1C#6, 0x34#6, 0x38#6, 0x3C#6] → refusedWith 3) ∧
    (rsv = false → we = true → addr ∈ [0x08#6, 0x10#6, 0x2C#6, 0x30#6] → refusedWith 4) ∧
    (rsv = false → we = false → addr ∈ [0x00#6, 0x04#6, 0x20#6] → refusedWith 4) ∧
    (rsv = false → we = true → addr = 0x00#6 → 0x1 < v → refusedWith 5) ∧
    (rsv = false → we = true → addr = 0x04#6 → 0xFF < v → refusedWith 5) ∧
    (rsv = false → we = true → addr = 0x0C#6 → 0xFFFF < v → refusedWith 5) ∧
    (rsv = false → we = true → addr = 0x28#6 → 0x1 < v → refusedWith 5) ∧
    (rsv = false → we = true → addr = 0x20#6 → 0x2 < v → refusedWith 5) ∧
    ((∀ i : Instr, decode t ≠ .ok i) → ∃ code : Word, refusedWith code) ∧
    (t = 0x8000000000 ∨ t = 0xA000000000 → transact t s = .next { s with response := some ⟨false, 0⟩ })

/-- R8, R190: every transaction word is answered in every state; `NOW` does not move in a transaction (R54); a refused
one has a code from 1 to 6 (R191) and changes nothing but the response. -/
def Obligations.EveryTransactionIsAnswered : Prop :=
  ∀ (t : TransactionWord) (s : State), ∃ (s' : State) (r : Response),
    transact t s = .next s' ∧ s'.response = some r ∧ s'.now = s.now ∧ s'.inputs = s.inputs ∧
    (r.err = true → s' = { s with response := some r } ∧ 1 ≤ r.rdata ∧ r.rdata ≤ 6)

/-- R72, R141, R191: `ERR_NOT_STARTED`, code 6, is the only refusal that depends on the state: it is that of
`RD TG_REMAINING` while no governor is started, and a word refused with another code is refused so in every state. -/
def Obligations.OnlyNotStartedDependsOnState : Prop :=
  ∀ (t : TransactionWord) (s s' : State) (r : Response),
    transact t s = .next s' → s'.response = some r → r.err = true →
    (r.rdata = 6 → headerByte t = 0x30 ∧ s.tgStarted = false) ∧
    (r.rdata ≠ 6 → ∀ u : State, transact t u = .next { u with response := some r })

/-- R72 test 5 against the operations' own rules (R104, R105, R107, R135, R137, R139): a write through the port does
exactly what its operation's rule does with the same operand, legal or not. -/
def Obligations.PortWriteAgreesWithOperationRule : Prop :=
  ∀ (v : Word) (s : State),
    transact (0x80#8 ++ v) s = exec (.wrCrcCtrl v) s ∧ transact (0x84#8 ++ v) s = exec (.wrCrcData v) s ∧
    transact (0x8C#8 ++ v) s = exec (.wrCrcExpect v) s ∧ transact (0xA4#8 ++ v) s = exec (.wrTgBudget v) s ∧
    transact (0xA8#8 ++ v) s = exec (.wrTgMode v) s ∧ transact (0xA0#8 ++ v) s = exec (.wrTgCtrl v) s

/-! ## Agents, steps, ordering (00_scope.md, 20_memory.md) -/

/-- R7, R8, R72: a step whose next act is a transaction runs the decoded operation, or refuses the word with its cause's
code, after taking the act off the front of `inputs` (the list is the model's own, notes/assumptions/4.md). -/
def Obligations.StepRunsDecodedTransaction : Prop :=
  ∀ (s : State) (t : TransactionWord) (es : List Event), s.inputs = .transaction t :: es →
    (∀ i, decode t = .ok i → step s = exec i { s with inputs := es }) ∧
    (∀ e, decode t = .error e → step s = .next { s with inputs := es, response := some ⟨true, e.code⟩ })

/-- R36: a tick adds exactly 1 to `NOW` and changes nothing else; there is no tick at `NOW = 2^64 - 1`. -/
def Obligations.TickAdvancesTimeBaseByOne : Prop :=
  ∀ (s : State) (es : List Event), s.inputs = .tick :: es →
    (s.now.toNat < 2 ^ 64 - 1 → ∃ n : Time, n.toNat = s.now.toNat + 1 ∧ step s = .next { s with inputs := es, now := n }) ∧
    (s.now.toNat = 2 ^ 64 - 1 → step s = .fault .nowAtTop)

/-- R220: reset sets every state element except `NOW` to the value of R39, and nothing else. That the last response
stays visible (notes/assumptions/5.md) and that the act is taken off `inputs` (notes/assumptions/4.md) are the model's
own choices: the two fields are no state elements of the spec. -/
def Obligations.ResetEventKeepsOnlyTimeBase : Prop :=
  ∀ (s : State) (es : List Event), s.inputs = .reset :: es →
    step s = .next
      { crcAcc := 0xFFFF, crcExpect := 0, tgBudget := 0, tgUnb := false, tgStarted := false, tgStart := 0,
        now := s.now, inputs := es, response := s.response }

/-- R58: running the machine over acts of the agents is the fold of the agents' steps over them, in the order given. -/
def Obligations.RunIsFoldOfEvents : Prop :=
  ∀ (es rest : List Event) (s : State),
    Sys2Proof.core.run es.length ({ s with inputs := es ++ rest } : State) =
      applyEvents es { s with inputs := rest }

/-- R8, R36, R58: a sequence of acts that does not take the time base past its top never stops, and `NOW` has then
advanced by exactly the number of ticks, whatever the host and the reset did. -/
def Obligations.SequenceRunsAndCountsTicks : Prop :=
  ∀ (es : List Event) (s : State), s.now.toNat + tickCount es < 2 ^ 64 →
    ∃ t : State, applyEvents es s = .next t ∧ t.now.toNat = s.now.toNat + tickCount es ∧ t.inputs = s.inputs

/-- R55: no read has a side effect; the plain stores, `INIT` and `DISCARD` are idempotent; feeding a byte is not, nor is
`START` when a tick falls between; a refused word changes nothing but the response. -/
def Obligations.SideEffectsOfReadsAndRepeatedWrites : Prop :=
  (∀ (i : Instr) (s : State), isRead i = true → ∃ r : Response, exec i s = .next { s with response := some r }) ∧
  (∀ (v : Word) (i : Instr) (s s' : State),
    i ∈ [Instr.wrCrcExpect v, .wrTgBudget v, .wrTgMode v, .wrCrcCtrl 0x1, .wrTgCtrl 0x2] →
    exec i s = .next s' → exec i s' = .next s') ∧
  (∃ (v : Word) (s s' s'' : State),
    exec (.wrCrcData v) s = .next s' ∧ exec (.wrCrcData v) s' = .next s'' ∧ s''.crcAcc ≠ s'.crcAcc) ∧
  (∀ s s' s'' : State, exec (.wrTgCtrl 0x1) s = .next s' → applyEvent .tick s' = .next s'' →
    ∃ t : State, exec (.wrTgCtrl 0x1) s'' = .next t ∧ t.tgStart.toNat = s'.tgStart.toNat + 1) ∧
  (∀ (t : TransactionWord) (e : ErrCause) (s : State), decode t = .error e →
    ∃ r : Response, transact t s = .next { s with response := some r })

/-- R2: no operation of one unit reads or writes state of the other. -/
def Obligations.UnitsShareNoState : Prop :=
  (∀ (i : Instr) (s t : State), isCrcOperation i = true → sameCrcUnit s t →
    ∃ s' t' : State, exec i s = .next s' ∧ exec i t = .next t' ∧ sameCrcUnit s' t' ∧
      s'.response = t'.response ∧ sameTgUnit s' s) ∧
  (∀ (i : Instr) (s t : State), isCrcOperation i = false → sameTgUnit s t →
    ∃ s' t' : State, exec i s = .next s' ∧ exec i t = .next t' ∧ sameTgUnit s' t' ∧
      s'.response = t'.response ∧ sameCrcUnit s' s)

/-! ## State and reset (10_state.md) -/

/-- R39: the launch state's elements, whatever `NOW` is, and what each query answers there; the machine's reset state is
one of these states (which one is the model's choice, notes/assumptions/1.md). -/
def Obligations.LaunchStateHoldsResetValues : Prop :=
  (∃ n : Time, State.reset = State.launch n) ∧ ∀ n : Time,
    let s := State.launch n
    let answers (i : Instr) (err : Bool) (v : Word) := exec i s = .next { s with response := some ⟨err, v⟩ }
    s.crcAcc = 0xFFFF ∧ s.crcExpect = 0 ∧ s.tgBudget = 0 ∧ s.tgUnb = false ∧ s.tgStarted = false ∧ s.tgStart = 0 ∧
    s.now = n ∧ answers .rdCrcAcc false 0xFFFF ∧ answers .rdCrcStatus false 0 ∧ answers .rdTgStatus false 0 ∧
    answers .rdTgRemaining true 6

/-- R38 at reset: the machine's reset state and every launch state meet the invariant. -/
def Obligations.LaunchStateMeetsInvariant : Prop :=
  State.reset.Inv ∧ ∀ n : Time, (State.launch n).Inv

/-- R38: every step keeps `TG_STARTED = 1` implying `TG_START <= NOW`. -/
def Obligations.EveryStepKeepsStartBeforeNow : Prop :=
  ∀ s s' : State, s.Inv → step s = .next s' → s'.Inv

/-! ## The CRC unit's operations (40_crc.md section 2) -/

/-- R104. -/
def Obligations.WriteCrcCtrlInitialises : Prop :=
  ∀ (s : State) (v : Word),
    encode (.wrCrcCtrl v) = 0x80#8 ++ v ∧
    (v = 0x1 → exec (.wrCrcCtrl v) s = .next { s with crcAcc := 0xFFFF, response := some ⟨false, 0⟩ }) ∧
    (v = 0x0 → exec (.wrCrcCtrl v) s = .next { s with response := some ⟨false, 0⟩ }) ∧
    (0x1 < v → exec (.wrCrcCtrl v) s = .next { s with response := some ⟨true, 5⟩ })

/-- R105, with its example's and its corner case's values. -/
def Obligations.WriteCrcDataFeedsOneByte : Prop :=
  ∀ (s : State) (v : Word),
    encode (.wrCrcData v) = 0x84#8 ++ v ∧
    (v ≤ 0xFF → exec (.wrCrcData v) s =
      .next { s with crcAcc := crcStep s.crcAcc (v.setWidth 8), response := some ⟨false, 0⟩ }) ∧
    (0xFF < v → exec (.wrCrcData v) s = .next { s with response := some ⟨true, 5⟩ }) ∧
    crcStep 0xFFFF 0x00 = 0x40BF ∧ crcStep 0xFFFF 0x01 = 0x807E ∧
    [1, 2, 3, 4, 5, 6, 7, 8].map (fun n => crcRounds n 0xFFFE) =
      [0x7FFF, 0x9FFE, 0x4FFF, 0x87FE, 0x43FF, 0x81FE, 0x40FF, 0x807E]

/-- R106, with its example: the checksum of the nine bytes of "123456789" read back, from every state. -/
def Obligations.ReadCrcAccReturnsAccumulator : Prop :=
  ∀ s : State, encode .rdCrcAcc = 0x08#8 ++ 0#32 ∧
    exec .rdCrcAcc s = .next { s with response := some ⟨false, 0#16 ++ s.crcAcc⟩ } ∧
    hostRun (crc16Sequence [0x31, 0x32, 0x33, 0x34, 0x35, 0x36, 0x37, 0x38, 0x39]) s =
      .next { s with crcAcc := 0x4B37, response := some ⟨false, 0x00004B37⟩ }

/-- R107. -/
def Obligations.WriteCrcExpectLoadsValue : Prop :=
  ∀ (s : State) (v : Word),
    encode (.wrCrcExpect v) = 0x8C#8 ++ v ∧
    (v ≤ 0xFFFF → exec (.wrCrcExpect v) s =
      .next { s with crcExpect := v.setWidth 16, response := some ⟨false, 0⟩ }) ∧
    (0xFFFF < v → exec (.wrCrcExpect v) s = .next { s with response := some ⟨true, 5⟩ })

/-- R108. -/
def Obligations.ReadCrcExpectReturnsValue : Prop :=
  ∀ s : State, encode .rdCrcExpect = 0x0C#8 ++ 0#32 ∧
    exec .rdCrcExpect s = .next { s with response := some ⟨false, 0#16 ++ s.crcExpect⟩ }

/-- R109: the comparison is of all 16 bits, and a mismatch is a value, not an error. -/
def Obligations.ReadCrcStatusCompares : Prop :=
  ∀ s : State, encode .rdCrcStatus = 0x10#8 ++ 0#32 ∧
    exec .rdCrcStatus s =
      .next { s with response := some ⟨false, if s.crcAcc = s.crcExpect then 1 else 0⟩ }

/-! ## The checksum (40_crc.md sections 1 and 3) -/

/-- R101, with the check value of R102. -/
def Obligations.ChecksumIsFoldFromSeed : Prop :=
  crc16 [] = 0xFFFF ∧ (∀ (bs : Bytes) (b : Byte), crc16 (bs ++ [b]) = crcStep (crc16 bs) b) ∧
  crc16 [0x31, 0x32, 0x33, 0x34, 0x35, 0x36, 0x37, 0x38, 0x39] = 0x4B37

/-- R110, R117: after a reset or an `INIT`, a read of `CRC_ACC` answers the `crc16` of exactly the bytes fed since,
whatever else the host, the time base and the refusals did, as long as no reset and no other `INIT` came between. -/
def Obligations.AccumulatorIsChecksumOfBytesFed : Prop :=
  ∀ (first : Event) (es : List Event) (s t : State),
    (first = .reset ∨ first = .transaction 0x8000000001) → (∀ e ∈ es, restartsCrc e = false) →
    applyEvents (first :: es) s = .next t →
    t.crcAcc = crc16 (es.filterMap fedByte) ∧
    exec .rdCrcAcc t = .next { t with response := some ⟨false, 0#16 ++ crc16 (es.filterMap fedByte)⟩ }

/-- R111. -/
def Obligations.WireFormIsLittleEndian : Prop :=
  (∀ c : Checksum, ∃ x y : Byte, crcWire c = [x, y] ∧ c.toNat = x.toNat + 256 * y.toNat ∧ crcUnwire x y = c) ∧
  (∀ x y : Byte, (crcUnwire x y).toNat = x.toNat + 256 * y.toNat) ∧
  crcWire 0x4B37 = [0x37, 0x4B] ∧ crcWire 0x0A84 = [0x84, 0x0A]

/-- R113: for a fixed byte the step is a bijection, it is linear over xor, and one flipped bit changes the checksum. -/
def Obligations.CrcStepIsBijectiveAndLinear : Prop :=
  (∀ b : Byte, Function.Bijective fun c : Checksum => crcStep c b) ∧
  (∀ (c d : Checksum) (b : Byte), crcStep (c ^^^ d) b = crcStep c b ^^^ crcStep d 0) ∧
  (∀ (bs : Bytes) (i : Nat) (j : Fin 8), i < bs.length → crc16 (flipBit bs i j) ≠ crc16 bs)

/-- R114: the table form, with the table entries the rule prints. -/
def Obligations.CrcStepHasTableForm : Prop :=
  (∀ (c : Checksum) (b : Byte),
    crcStep c b = (c >>> 8) ^^^ crcTable ((c ^^^ b.setWidth 16).extractLsb' 0 8)) ∧
  crcTable 0 = 0x0000 ∧ crcTable 1 = 0xC0C1 ∧ crcTable 2 = 0xC181 ∧ crcTable 3 = 0x0140 ∧ crcTable 4 = 0xC301 ∧
  crcTable 5 = 0x03C0 ∧ crcTable 6 = 0x0280 ∧ crcTable 7 = 0xC241 ∧ crcTable 255 = 0x4040

/-- R115: feeding the checksum's wire bytes after the sequence leaves 0, and only the matching bytes do. -/
def Obligations.ResidueIsZeroExactlyOnMatch : Prop :=
  (∀ bs : Bytes, crc16 (bs ++ crcWire (crc16 bs)) = 0) ∧
  (∀ (bs : Bytes) (x y : Byte), crc16 (bs ++ [x, y]) = 0 ↔ crcUnwire x y = crc16 bs)

/-- R116: with any one bit of a payload or of its two checksum bytes flipped, the receiver's comparison through the block
answers `MATCH = 0`, from every state. -/
def Obligations.SingleBitFlipNeverMatches : Prop :=
  ∀ (p : Bytes) (i : Nat) (j : Fin 8) (x y : Byte) (s : State), i < p.length + 2 →
    let received := flipBit (p ++ crcWire (crc16 p)) i j
    received.drop p.length = [x, y] →
    ∃ t : State, hostRun (crc16Begin ++ crc16Bytes (received.take p.length) ++ crc16Check x y) s = .next t ∧
      t.response = some ⟨false, 0⟩

/-! ## The TG unit's operations (41_timeout.md section 2) -/

/-- R135. -/
def Obligations.WriteTgBudgetSetsBudget : Prop :=
  ∀ (s : State) (v : Word), encode (.wrTgBudget v) = 0xA4#8 ++ v ∧
    exec (.wrTgBudget v) s = .next { s with tgBudget := v, response := some ⟨false, 0⟩ }

/-- R136. -/
def Obligations.ReadTgBudgetReturnsBudget : Prop :=
  ∀ s : State, encode .rdTgBudget = 0x24#8 ++ 0#32 ∧
    exec .rdTgBudget s = .next { s with response := some ⟨false, s.tgBudget⟩ }

/-- R137. -/
def Obligations.WriteTgModeSetsUnbounded : Prop :=
  ∀ (s : State) (v : Word), encode (.wrTgMode v) = 0xA8#8 ++ v ∧
    (v = 0x0 → exec (.wrTgMode v) s = .next { s with tgUnb := false, response := some ⟨false, 0⟩ }) ∧
    (v = 0x1 → exec (.wrTgMode v) s = .next { s with tgUnb := true, response := some ⟨false, 0⟩ }) ∧
    (0x1 < v → exec (.wrTgMode v) s = .next { s with response := some ⟨true, 5⟩ })

/-- R138. -/
def Obligations.ReadTgModeReturnsUnbounded : Prop :=
  ∀ s : State, encode .rdTgMode = 0x28#8 ++ 0#32 ∧
    exec .rdTgMode s = .next { s with response := some ⟨false, if s.tgUnb = true then 1 else 0⟩ }

/-- R139: `0x0` does nothing, `0x1` starts (and restarts), `0x2` discards and keeps `TG_START`, all else is refused. -/
def Obligations.WriteTgCtrlStartsOrDiscards : Prop :=
  ∀ (s : State) (v : Word), encode (.wrTgCtrl v) = 0xA0#8 ++ v ∧
    (v = 0x0 → exec (.wrTgCtrl v) s = .next { s with response := some ⟨false, 0⟩ }) ∧
    (v = 0x1 → exec (.wrTgCtrl v) s =
      .next { s with tgStart := s.now, tgStarted := true, response := some ⟨false, 0⟩ }) ∧
    (v = 0x2 → exec (.wrTgCtrl v) s = .next { s with tgStarted := false, response := some ⟨false, 0⟩ }) ∧
    (0x2 < v → exec (.wrTgCtrl v) s = .next { s with response := some ⟨true, 5⟩ })

/-- R140: the query never fails and answers one of five words; its bits are `STARTED`, `EXPIRED` and `UNBOUNDED`. The
bit `EXPIRED` is stated for states that meet R38's invariant, where `NOW - TG_START` is a natural number. -/
def Obligations.ReadTgStatusAnswersExpiry : Prop :=
  ∀ s : State, encode .rdTgStatus = 0x2C#8 ++ 0#32 ∧ ∃ w : Word,
    exec .rdTgStatus s = .next { s with response := some ⟨false, w⟩ } ∧
    w ∈ [0x0#32, 0x1#32, 0x3#32, 0x4#32, 0x5#32] ∧ w.getLsbD 0 = s.tgStarted ∧ w.getLsbD 2 = s.tgUnb ∧
    (s.Inv → (w.getLsbD 1 = true ↔
      s.tgStarted = true ∧ s.tgUnb = false ∧ s.tgStart.toNat + s.tgBudget.toNat ≤ s.now.toNat))

/-- R141: refused when no governor is started, `0xFFFF_FFFF` when unbounded, else the floored rest of the budget, stated
for states that meet R38's invariant, where `NOW - TG_START` is a natural number. The floor is 0 or 1, not known which. -/
def Obligations.ReadTgRemainingAnswersTimeLeft : Prop :=
  (Params.remFloor = 0 ∨ Params.remFloor = 1) ∧ ∀ s : State, encode .rdTgRemaining = 0x30#8 ++ 0#32 ∧
    (s.tgStarted = false → exec .rdTgRemaining s = .next { s with response := some ⟨true, 6⟩ }) ∧
    (s.tgStarted = true → s.tgUnb = true →
      exec .rdTgRemaining s = .next { s with response := some ⟨false, 0xFFFFFFFF⟩ }) ∧
    (s.tgStarted = true → s.tgUnb = false → ∃ w : Word,
      exec .rdTgRemaining s = .next { s with response := some ⟨false, w⟩ } ∧
      (s.Inv → w.toNat = max Params.remFloor.toNat (s.tgBudget.toNat - (s.now.toNat - s.tgStart.toNat))))

/-! ## The governor (41_timeout.md sections 1 and 3) -/

/-- R131: `remaining` is the budget less the elapsed time, never below the floor, for both admitted floors; the block's
own floor is one of the two. -/
def Obligations.RemainingIsBudgetMinusElapsedFloored : Prop :=
  (∀ (f : Word) (e : Nat) (b : Word), f = 0 ∨ f = 1 →
    (remaining f e b).toNat = max f.toNat (b.toNat - e) ∧ (remaining f e b).toNat ≤ max f.toNat b.toNat) ∧
  (Params.remFloor = 0 ∨ Params.remFloor = 1)

/-- R132: inclusive comparison, never when unbounded. -/
def Obligations.ExpiredIsElapsedReachedBudget : Prop :=
  ∀ (e : Nat) (b : Word), expired e b true = false ∧ (expired e b false = true ↔ b.toNat ≤ e) ∧
    expired b.toNat b false = true

/-- R133: with a zero finite budget every check from the `START` on answers `EXPIRED = 1`, the first one included. -/
def Obligations.ZeroBudgetExpiresAtEveryCheck : Prop :=
  ∀ (es : List Event) (s t : State), s.tgUnb = false → s.tgBudget = 0 → (∀ e ∈ es, leavesGovernor e = true) →
    applyEvents (.transaction 0xA000000001 :: es) s = .next t →
    exec .rdTgStatus t = .next { t with response := some ⟨false, 0x3⟩ }

/-- R134: while the budget is unbounded the governor never expires, whatever budgets are written and however long it
runs; `TG_BUDGET` stays readable, and `RD TG_REMAINING` answers `0xFFFF_FFFF`. -/
def Obligations.UnboundedBudgetNeverExpires : Prop :=
  ∀ (es : List Event) (s t : State), s.tgUnb = true → s.tgStarted = true →
    (∀ e ∈ es, leavesGovernor e = true ∨ ∃ v : Word, e = .transaction (0xA4#8 ++ v)) →
    applyEvents es s = .next t →
    exec .rdTgStatus t = .next { t with response := some ⟨false, 0x5⟩ } ∧
    exec .rdTgRemaining t = .next { t with response := some ⟨false, 0xFFFFFFFF⟩ } ∧
    ((∀ e ∈ es, leavesGovernor e = true) → t.tgBudget = s.tgBudget)

/-- R143: once a check has answered `EXPIRED = 1`, every later one does, as long as nothing touches the governor. -/
def Obligations.ExpiryIsMonotone : Prop :=
  ∀ (es : List Event) (s t : State), exec .rdTgStatus s = .next { s with response := some ⟨false, 0x3⟩ } →
    (∀ e ∈ es, leavesGovernor e = true) → applyEvents es s = .next t →
    exec .rdTgStatus t = .next { t with response := some ⟨false, 0x3⟩ }

/-- R144: with a finite budget the remaining time starts at `max(REM_FLOOR, TG_BUDGET)` and falls by exactly the number
of ticks until it reaches the floor, where it stays. -/
def Obligations.RemainingFallsByTicksToFloor : Prop :=
  (∀ s t : State, s.tgUnb = false → exec (.wrTgCtrl 0x1) s = .next t → ∃ w : Word,
    exec .rdTgRemaining t = .next { t with response := some ⟨false, w⟩ } ∧
    w.toNat = max Params.remFloor.toNat s.tgBudget.toNat) ∧
  (∀ (es : List Event) (s t : State), s.Inv → s.tgStarted = true → s.tgUnb = false →
    (∀ e ∈ es, leavesGovernor e = true) → applyEvents es s = .next t → ∃ w w' : Word,
    exec .rdTgRemaining s = .next { s with response := some ⟨false, w⟩ } ∧
    exec .rdTgRemaining t = .next { t with response := some ⟨false, w'⟩ } ∧
    w'.toNat = max Params.remFloor.toNat (w.toNat - tickCount es))

/-- R145: the two queries agree at one instant, for both admitted floors. -/
def Obligations.QueriesAgreeAtOneInstant : Prop :=
  ∀ (e : Nat) (b : Word),
    (expired e b false = true ↔ b.toNat - e = 0) ∧
    (expired e b false = true ↔ remaining 0 e b = 0) ∧
    (expired e b false = true → remaining 1 e b = 1) ∧
    (remaining 1 e b = 1 → expired e b false = false → e + 1 = b.toNat)

/-- R152: from a `START` with a finite budget no check answers `EXPIRED = 1` before that many ticks have passed, and
every check from then on does. -/
def Obligations.ExpiryExactlyAfterBudgetTicks : Prop :=
  ∀ (es : List Event) (s t : State), s.tgUnb = false → (∀ e ∈ es, leavesGovernor e = true) →
    applyEvents (.transaction 0xA000000001 :: es) s = .next t →
    (tickCount es < s.tgBudget.toNat → exec .rdTgStatus t = .next { t with response := some ⟨false, 0x1⟩ }) ∧
    (s.tgBudget.toNat ≤ tickCount es → exec .rdTgStatus t = .next { t with response := some ⟨false, 0x3⟩ })

/-- R81, R82: the read of `TG.HAS_EXPIRED` always succeeds; it has no result, and answers `EXPIRED = 0`, when no governor
is started, and else its result is whether the budget has passed (for states that meet R38's invariant). -/
def Obligations.HasExpiredIsValidOnlyWhenStarted : Prop :=
  ∀ s : State, ∃ (t : State) (r : Response), hostRun tgHasExpired s = .next t ∧ t.response = some r ∧ r.err = false ∧
    (s.tgStarted = false → r.hasExpired = none ∧ r.rdata.getLsbD 1 = false) ∧
    (s.tgStarted = true → s.Inv →
      r.hasExpired = some (decide (s.tgUnb = false ∧ s.tgStart.toNat + s.tgBudget.toNat ≤ s.now.toNat)))

/-! ## The frame functions (42_frame.md) -/

/-- R162, with its example. -/
def Obligations.FrameEncodeAppendsChecksum : Prop :=
  (∀ data : Bytes, data.length < 4 → frameEncode data = .error .frameTooShortToSend) ∧
  (∀ (echo p : Bytes), echo.length = 4 → ∃ lo hi : Byte,
    frameEncode (echo ++ p) = .ok (echo ++ p ++ [lo, hi]) ∧ (crc16 p).toNat = lo.toNat + 256 * hi.toNat) ∧
  (∀ echo : Bytes, echo.length = 4 → frameEncode echo = .ok (echo ++ [0xFF, 0xFF])) ∧
  frameEncode [0x6D, 0x6F, 0x76, 0x65, 0x10, 0x27, 0x00, 0x00] =
    .ok [0x6D, 0x6F, 0x76, 0x65, 0x10, 0x27, 0x00, 0x00, 0xB4, 0xEF]

/-- R163: what is stripped is all zeros, and what is left does not begin with a zero. -/
def Obligations.StripRemovesLongestZeroPrefix : Prop :=
  ∀ bs : Bytes, (∃ k : Nat, bs = List.replicate k 0 ++ stripLeadingZeros bs) ∧
    (stripLeadingZeros bs).head? ≠ some 0

/-- R164, R175: the receive loop computes `strip_leading_zeros(rx)[:target]`, leaves exactly the bytes after it in the
stream, and does not depend on leading zeros (R175, which the spec marks as derived). Where the stream is too short the
function does not return (R164, U20); that the model then answers `none` is notes/assumptions/10.md. -/
def Obligations.AcquireIsStrippedPrefix : Prop :=
  ∀ (rx : Bytes) (size : Nat),
    frameAcquire rx size =
      (if size + 2 ≤ (stripLeadingZeros rx).length
        then some ((stripLeadingZeros rx).take (size + 2), (stripLeadingZeros rx).drop (size + 2)) else none) ∧
    ∀ z : Nat, frameAcquire (List.replicate z 0 ++ rx) size = frameAcquire rx size

/-- R165, R167: the five steps of `frame_decode`, in their order. -/
def Obligations.FrameDecodeChecksThenInspectsEcho : Prop :=
  (∀ f : Bytes, f.length < 2 → frameDecode f = .error .malformedFrame) ∧
  (∀ (data : Bytes) (x y : Byte),
    let received : Checksum := y ++ x
    let computed := crc16 (data.drop 4)
    frameDecode (data ++ [x, y]) =
      if computed ≠ received then .error (.checksumMismatch computed received)
      else if data.take 4 = [0x65, 0x72, 0x72, 0x63] then .error .deviceCommandError
      else if data.take 4 = [0x65, 0x72, 0x72, 0x64] then .error .deviceChecksumError
      else if data.take 4 = [0x65, 0x72, 0x72, 0x76] then .error .deviceRangeError
      else .ok (data.drop 4))

/-- R169: a frame with fewer than four bytes before its checksum is accepted only if that is `FF FF`, and its payload is
empty; a frame that was acquired is never malformed. -/
def Obligations.ShortFrameNeedsEmptyChecksum : Prop :=
  (∀ (data : Bytes) (x y : Byte), data.length < 4 →
    frameDecode (data ++ [x, y]) =
      if x = 0xFF ∧ y = 0xFF then .ok [] else .error (.checksumMismatch 0xFFFF (y ++ x))) ∧
  (∀ (rx f rest : Bytes) (size : Nat), frameAcquire rx size = some (f, rest) →
    f.length = size + 2 ∧ frameDecode f ≠ .error .malformedFrame)

/-- R171: sending through the block hands over exactly the frame of `frame_encode`, from every state, and changes only
the accumulator and the response. -/
def Obligations.SendingThroughBlockIsFrameEncode : Prop :=
  ∀ (data : Bytes) (s : State), 4 ≤ data.length → ∃ r : Response,
    hostRun (sendSequence data) s = .next { s with crcAcc := crc16 (data.drop 4), response := some r } ∧
    r.err = false ∧ frameEncode data = .ok (sentBytes data r)

/-- R172: checking through the block answers `MATCH = 1` exactly when the checksum step of `frame_decode` passes, and on
a mismatch the block holds both values of the error report. -/
def Obligations.CheckingThroughBlockIsFrameDecode : Prop :=
  ∀ (f : Bytes) (s : State), 2 ≤ f.length → ∃ (t : State) (m : Bool),
    hostRun (checkSequence f) s = .next t ∧ t.response = some ⟨false, if m = true then 1 else 0⟩ ∧
    (m = true → ∀ c r : Checksum, frameDecode f ≠ .error (.checksumMismatch c r)) ∧
    (m = false → frameDecode f = .error (.checksumMismatch t.crcAcc t.crcExpect)) ∧
    sameTgUnit t s

/-- R173: the round trip, for every payload, every echo that does not begin with a zero byte and is no sentinel, every
run of leading zeros and everything that follows. -/
def Obligations.FramingRoundTrip : Prop :=
  ∀ (z : Nat) (echo p rest : Bytes), echo.length = 4 → echo.head? ≠ some 0 → isSentinel echo = false →
    ∃ frame : Bytes, frameEncode (echo ++ p) = .ok frame ∧
      frameAcquire (List.replicate z 0 ++ frame ++ rest) (4 + p.length) = some (frame, rest) ∧
      frameDecode frame = .ok p

/-- R174: one flipped bit in the payload or the checksum of a frame is always reported as a checksum mismatch; and
`frame_decode` of a frame whose checksum fits its payload reports none, whatever the four echo bytes are. -/
def Obligations.FlippedBitRaisesMismatch : Prop :=
  (∀ (echo p : Bytes) (c r : Checksum), echo.length = 4 →
    frameDecode (echo ++ p ++ crcWire (crc16 p)) ≠ .error (.checksumMismatch c r)) ∧
  ∀ (z : Nat) (echo p rest : Bytes) (i : Nat) (j : Fin 8),
    echo.length = 4 → echo.head? ≠ some 0 → i < p.length + 2 →
    ∃ (frame : Bytes) (c r : Checksum),
      frameAcquire (List.replicate z 0 ++ (echo ++ flipBit (p ++ crcWire (crc16 p)) i j) ++ rest) (4 + p.length) =
        some (frame, rest) ∧
      c ≠ r ∧ frameDecode frame = .error (.checksumMismatch c r)

/-- R166, R176: the three sentinel echoes, with a good checksum over any payload, raise their own three errors. -/
def Obligations.SentinelsRaiseTheirOwnErrors : Prop :=
  ∀ p : Bytes,
    frameDecode ([0x65, 0x72, 0x72, 0x63] ++ p ++ crcWire (crc16 p)) = .error .deviceCommandError ∧
    frameDecode ([0x65, 0x72, 0x72, 0x64] ++ p ++ crcWire (crc16 p)) = .error .deviceChecksumError ∧
    frameDecode ([0x65, 0x72, 0x72, 0x76] ++ p ++ crcWire (crc16 p)) = .error .deviceRangeError

/-! ## Checking with the block, whole (42_frame.md R172) -/

/-- R172 whole: from every state, for every frame of at least two bytes (every one is some `data ++ [x, y]`), the host
ends with a pass exactly when the checksums are equal, the last response then `MATCH = 1`; else it has read both values
through the port, the last response is that of `RD CRC_EXPECT`, and the report is the error of `frame_decode`. Only
`CRC_ACC`, `CRC_EXPECT` and the response (the model's own field, notes/assumptions/5.md) have changed. -/
def Obligations.CheckingWithBlockReportsBothValues : Prop :=
  ∀ (data : Bytes) (x y : Byte) (s : State),
    let computed := crc16 (data.drop 4)
    let received : Checksum := y ++ x
    let answered (r : Response) : State := { s with crcAcc := computed, crcExpect := received, response := some r }
    (computed = received → checkFrame (data ++ [x, y]) s = some (answered ⟨false, 1⟩, .ok ())) ∧
    (computed ≠ received →
      checkFrame (data ++ [x, y]) s =
        some (answered ⟨false, 0#16 ++ received⟩, .error (.checksumMismatch computed received)) ∧
      frameDecode (data ++ [x, y]) = .error (.checksumMismatch computed received))
end

