-- ==== Sys2Proof/Laws/Crc.lean ====
section
/-! SUPPORT. The rounds of the CRC step: they are linear over xor and only zero leads to zero. -/

namespace Sys2Proof.Machine

theorem crcRound_xor (c d : Checksum) : crcRound (c ^^^ d) = crcRound c ^^^ crcRound d := by
  apply BitVec.eq_of_getLsbD_eq
  intro i hi
  unfold crcRound
  rw [BitVec.getLsbD_xor]
  cases c.getLsbD 0 <;> cases d.getLsbD 0 <;>
    simp only [Bool.xor_false, Bool.xor_true, Bool.not_false, Bool.not_true, if_true, if_false, Bool.false_eq_true,
      BitVec.getLsbD_xor, BitVec.getLsbD_ushiftRight] <;>
    cases c.getLsbD (1 + i) <;> cases d.getLsbD (1 + i) <;> cases Params.crcPolyR.getLsbD i <;> rfl

theorem crcRounds_xor (n : Nat) (c d : Checksum) : crcRounds n (c ^^^ d) = crcRounds n c ^^^ crcRounds n d := by
  induction n generalizing c d with
  | zero => rfl
  | succ n ih => simp only [crcRounds, crcRound_xor, ih]

/-- A round that gives 0 started from 0: the polynomial's top bit is set, and a plain shift loses only bit 0. -/
theorem eq_zero_of_crcRound (c : Checksum) (h : crcRound c = 0) : c = 0 := by
  unfold crcRound at h
  split at h <;> rename_i h0
  · exfalso
    have := congrArg (fun x : Checksum => x.getLsbD 15) h
    simp [Params.crcPolyR] at this
  · apply BitVec.eq_of_getLsbD_eq
    intro i hi
    cases i with
    | zero => simpa using h0
    | succ i =>
      have hbit := congrArg (fun x : Checksum => x.getLsbD i) h
      simp at hbit ⊢
      rw [Nat.add_comm] at hbit
      rw [← hbit]

theorem eq_zero_of_crcRounds (n : Nat) (c : Checksum) (h : crcRounds n c = 0) : c = 0 := by
  induction n generalizing c with
  | zero => exact h
  | succ n ih => exact eq_zero_of_crcRound c (ih _ h)

theorem crcFold_nil (c : Checksum) : crcFold c [] = c := rfl

theorem crcFold_cons (c : Checksum) (b : Byte) (bs : Bytes) : crcFold c (b :: bs) = crcFold (crcStep c b) bs := rfl

theorem crcFold_append (c : Checksum) (as bs : Bytes) : crcFold c (as ++ bs) = crcFold (crcFold c as) bs := by
  simp [crcFold]

/-- The two bytes of a checksum put together again. -/
theorem crcUnwire_bytes (c : Checksum) : crcUnwire (c.extractLsb' 0 8) (c.extractLsb' 8 8) = c := by
  unfold crcUnwire
  apply BitVec.eq_of_getLsbD_eq
  intro i hi
  rw [BitVec.getLsbD_append]
  by_cases h : i < 8
  · simp [h]
  · simp [h, show i - 8 < 8 by omega, show 8 + (i - 8) = i by omega]

end Sys2Proof.Machine
end

