-- ==== Sys2Proof/Laws/Decode.lean ====
section
/-! SUPPORT. The fields of a transaction word given as header byte and `WDATA`, the decoder in those terms, and the
numeric form of the decoder's test of an operand. -/

namespace Sys2Proof

/-! ## A word as header and data -/

theorem getLsbD_header_data (h : Byte) (d : Word) (i : Nat) :
    (h ++ d).getLsbD i = if i < 32 then d.getLsbD i else h.getLsbD (i - 32) := by
  rw [BitVec.getLsbD_append]

theorem fieldWE_header_data (h : Byte) (d : Word) : fieldWE (h ++ d) = h.getLsbD 7 := by
  unfold fieldWE; rw [getLsbD_header_data]; rfl

theorem fieldRSV_header_data (h : Byte) (d : Word) : fieldRSV (h ++ d) = h.getLsbD 6 := by
  unfold fieldRSV; rw [getLsbD_header_data]; rfl

theorem fieldADDR_header_data (h : Byte) (d : Word) : fieldADDR (h ++ d) = h.extractLsb' 0 6 := by
  apply BitVec.eq_of_getLsbD_eq
  intro i hi
  simp [fieldADDR, getLsbD_header_data, hi]

theorem fieldWDATA_header_data (h : Byte) (d : Word) : fieldWDATA (h ++ d) = d := by
  apply BitVec.eq_of_getLsbD_eq
  intro i hi
  simp [fieldWDATA, getLsbD_header_data, hi]

theorem headerByte_header_data (h : Byte) (d : Word) : headerByte (h ++ d) = h := by
  apply BitVec.eq_of_getLsbD_eq
  intro i hi
  simp [headerByte, getLsbD_header_data, hi]

/-- Every transaction word is its header byte and its data. -/
theorem header_data_eq (t : TransactionWord) : headerByte t ++ fieldWDATA t = t := by
  apply BitVec.eq_of_getLsbD_eq
  intro i hi
  rw [getLsbD_header_data]
  simp only [headerByte, fieldWDATA, BitVec.getLsbD_extractLsb']
  split
  · simp_all
  · rw [show 32 + (i - 32) = i by omega]; simp; omega

/-- The decoder on a word given as header and data. -/
theorem decode_header_data (h : Byte) (d : Word) :
    decode (h ++ d) =
      if h.getLsbD 6 then .error .format
      else if (h.extractLsb' 0 6).extractLsb' 0 2 != 0 then .error .align
      else
        match Reg.ofOffset (h.extractLsb' 0 6) with
        | none => .error .addr
        | some r => decodeAccess (h.getLsbD 7) r d := by
  unfold decode
  rw [fieldRSV_header_data, fieldADDR_header_data, fieldWE_header_data, fieldWDATA_header_data] <;> rfl

/-! ## The offsets -/

theorem ofOffset_offset (r : Reg) : Reg.ofOffset r.offset = some r := by
  cases r <;> rfl

theorem offset_aligned (r : Reg) : r.offset.extractLsb' 0 2 = 0 := by
  cases r <;> rfl

/-! ## The decoder's test of an operand (R72 test 5) -/

theorem and_not_eq_zero_iff (v m : Word) : v &&& ~~~m = 0 ↔ v &&& m = v := by
  constructor <;> intro h <;> apply BitVec.eq_of_getLsbD_eq <;> intro i hi <;>
    have hbit := congrArg (fun x : Word => x.getLsbD i) h <;> revert hbit <;>
    simp only [BitVec.getLsbD_and, BitVec.getLsbD_not] <;>
    cases v.getLsbD i <;> cases m.getLsbD i <;> simp [hi]

/-- A word has a bit outside the low `n` bits exactly when it is at least `2 ^ n`. -/
theorem outside_mask (v : Word) (n : Nat) (hn : n ≤ 31) :
    (v &&& ~~~(BitVec.ofNat 32 (2 ^ n - 1)) != 0) = decide (2 ^ n ≤ v.toNat) := by
  have hlt : 2 ^ n ≤ 2 ^ 31 := Nat.pow_le_pow_right (by decide) hn
  have := Nat.mod_lt v.toNat (Nat.two_pow_pos n)
  rw [Bool.eq_iff_iff, bne_iff_ne, decide_eq_true_eq, ne_eq, and_not_eq_zero_iff, BitVec.toNat_eq, BitVec.toNat_and,
    BitVec.toNat_ofNat, Nat.mod_eq_of_lt (by omega), Nat.and_two_pow_sub_one_eq_mod]
  constructor
  · intro h; by_contra hc; exact h (Nat.mod_eq_of_lt (by omega))
  · intro h hc; omega

theorem illegalValue_crcCtrl (v : Word) : illegalValue .crcCtrl v = decide (2 ≤ v.toNat) := by
  unfold illegalValue
  rw [show Reg.writeMask .crcCtrl = BitVec.ofNat 32 (2 ^ 1 - 1) from rfl, outside_mask v 1 (by decide)]
  simp

theorem illegalValue_crcData (v : Word) : illegalValue .crcData v = decide (256 ≤ v.toNat) := by
  unfold illegalValue
  rw [show Reg.writeMask .crcData = BitVec.ofNat 32 (2 ^ 8 - 1) from rfl, outside_mask v 8 (by decide)]
  simp

theorem illegalValue_crcExpect (v : Word) : illegalValue .crcExpect v = decide (65536 ≤ v.toNat) := by
  unfold illegalValue
  rw [show Reg.writeMask .crcExpect = BitVec.ofNat 32 (2 ^ 16 - 1) from rfl, outside_mask v 16 (by decide)]
  simp

theorem illegalValue_tgMode (v : Word) : illegalValue .tgMode v = decide (2 ≤ v.toNat) := by
  unfold illegalValue
  rw [show Reg.writeMask .tgMode = BitVec.ofNat 32 (2 ^ 1 - 1) from rfl, outside_mask v 1 (by decide)]
  simp

theorem illegalValue_tgBudget (v : Word) : illegalValue .tgBudget v = false := by
  unfold illegalValue
  rw [show ~~~Reg.writeMask .tgBudget = 0 from rfl]
  simp

theorem illegalValue_tgCtrl (v : Word) : illegalValue .tgCtrl v = decide (3 ≤ v.toNat) := by
  unfold illegalValue
  rw [show Reg.writeMask .tgCtrl = BitVec.ofNat 32 (2 ^ 2 - 1) from rfl, outside_mask v 2 (by decide),
    Bool.eq_iff_iff]
  simp [BitVec.toNat_eq]
  omega

end Sys2Proof
end

