-- ==== Sys2Proof/Laws/Frame.lean ====
section
/-! SUPPORT. The slices of a sequence that ends in two known bytes, and the first steps of stripping leading zeros. -/

namespace Sys2Proof.Machine

theorem sliceLastTwo_append (d : Bytes) (x y : Byte) : sliceLastTwo (d ++ [x, y]) = [x, y] := by
  simp [sliceLastTwo]

theorem sliceButLastTwo_append (d : Bytes) (x y : Byte) : sliceButLastTwo (d ++ [x, y]) = d := by
  simp [sliceButLastTwo]

theorem receivedChecksum_append (d : Bytes) (x y : Byte) : receivedChecksum (d ++ [x, y]) = some (crcUnwire x y) := by
  simp [receivedChecksum, sliceLastTwo_append]

theorem stripLeadingZeros_zero_cons (bs : Bytes) : stripLeadingZeros (0 :: bs) = stripLeadingZeros bs := by
  simp [stripLeadingZeros]

theorem stripLeadingZeros_cons_of_ne {b : Byte} (bs : Bytes) (h : b ≠ 0) : stripLeadingZeros (b :: bs) = b :: bs := by
  simp [stripLeadingZeros]
  exact h

end Sys2Proof.Machine
end

