-- ==== Sys2Proof/Laws/State.lean ====
section
/-! SUPPORT. What each named update of the state does to each field: one lemma per field per update, so that no later
proof unfolds a record update. -/

namespace Sys2Proof.Machine

@[simp] theorem State.setCrcAcc_crcAcc (s : State) (c : Checksum) : (s.setCrcAcc c).crcAcc = c := rfl
@[simp] theorem State.setCrcAcc_crcExpect (s : State) (c : Checksum) : (s.setCrcAcc c).crcExpect = s.crcExpect := rfl
@[simp] theorem State.setCrcAcc_tgBudget (s : State) (c : Checksum) : (s.setCrcAcc c).tgBudget = s.tgBudget := rfl
@[simp] theorem State.setCrcAcc_tgUnb (s : State) (c : Checksum) : (s.setCrcAcc c).tgUnb = s.tgUnb := rfl
@[simp] theorem State.setCrcAcc_tgStarted (s : State) (c : Checksum) : (s.setCrcAcc c).tgStarted = s.tgStarted := rfl
@[simp] theorem State.setCrcAcc_tgStart (s : State) (c : Checksum) : (s.setCrcAcc c).tgStart = s.tgStart := rfl
@[simp] theorem State.setCrcAcc_now (s : State) (c : Checksum) : (s.setCrcAcc c).now = s.now := rfl
@[simp] theorem State.setCrcAcc_inputs (s : State) (c : Checksum) : (s.setCrcAcc c).inputs = s.inputs := rfl
@[simp] theorem State.setCrcAcc_response (s : State) (c : Checksum) : (s.setCrcAcc c).response = s.response := rfl

@[simp] theorem State.setCrcExpect_crcAcc (s : State) (c : Checksum) : (s.setCrcExpect c).crcAcc = s.crcAcc := rfl
@[simp] theorem State.setCrcExpect_crcExpect (s : State) (c : Checksum) : (s.setCrcExpect c).crcExpect = c := rfl
@[simp] theorem State.setCrcExpect_tgBudget (s : State) (c : Checksum) : (s.setCrcExpect c).tgBudget = s.tgBudget := rfl
@[simp] theorem State.setCrcExpect_tgUnb (s : State) (c : Checksum) : (s.setCrcExpect c).tgUnb = s.tgUnb := rfl
@[simp] theorem State.setCrcExpect_tgStarted (s : State) (c : Checksum) : (s.setCrcExpect c).tgStarted = s.tgStarted := rfl
@[simp] theorem State.setCrcExpect_tgStart (s : State) (c : Checksum) : (s.setCrcExpect c).tgStart = s.tgStart := rfl
@[simp] theorem State.setCrcExpect_now (s : State) (c : Checksum) : (s.setCrcExpect c).now = s.now := rfl
@[simp] theorem State.setCrcExpect_inputs (s : State) (c : Checksum) : (s.setCrcExpect c).inputs = s.inputs := rfl
@[simp] theorem State.setCrcExpect_response (s : State) (c : Checksum) : (s.setCrcExpect c).response = s.response := rfl

@[simp] theorem State.setTgBudget_crcAcc (s : State) (v : Word) : (s.setTgBudget v).crcAcc = s.crcAcc := rfl
@[simp] theorem State.setTgBudget_crcExpect (s : State) (v : Word) : (s.setTgBudget v).crcExpect = s.crcExpect := rfl
@[simp] theorem State.setTgBudget_tgBudget (s : State) (v : Word) : (s.setTgBudget v).tgBudget = v := rfl
@[simp] theorem State.setTgBudget_tgUnb (s : State) (v : Word) : (s.setTgBudget v).tgUnb = s.tgUnb := rfl
@[simp] theorem State.setTgBudget_tgStarted (s : State) (v : Word) : (s.setTgBudget v).tgStarted = s.tgStarted := rfl
@[simp] theorem State.setTgBudget_tgStart (s : State) (v : Word) : (s.setTgBudget v).tgStart = s.tgStart := rfl
@[simp] theorem State.setTgBudget_now (s : State) (v : Word) : (s.setTgBudget v).now = s.now := rfl
@[simp] theorem State.setTgBudget_inputs (s : State) (v : Word) : (s.setTgBudget v).inputs = s.inputs := rfl
@[simp] theorem State.setTgBudget_response (s : State) (v : Word) : (s.setTgBudget v).response = s.response := rfl

@[simp] theorem State.setTgUnb_crcAcc (s : State) (b : Bool) : (s.setTgUnb b).crcAcc = s.crcAcc := rfl
@[simp] theorem State.setTgUnb_crcExpect (s : State) (b : Bool) : (s.setTgUnb b).crcExpect = s.crcExpect := rfl
@[simp] theorem State.setTgUnb_tgBudget (s : State) (b : Bool) : (s.setTgUnb b).tgBudget = s.tgBudget := rfl
@[simp] theorem State.setTgUnb_tgUnb (s : State) (b : Bool) : (s.setTgUnb b).tgUnb = b := rfl
@[simp] theorem State.setTgUnb_tgStarted (s : State) (b : Bool) : (s.setTgUnb b).tgStarted = s.tgStarted := rfl
@[simp] theorem State.setTgUnb_tgStart (s : State) (b : Bool) : (s.setTgUnb b).tgStart = s.tgStart := rfl
@[simp] theorem State.setTgUnb_now (s : State) (b : Bool) : (s.setTgUnb b).now = s.now := rfl
@[simp] theorem State.setTgUnb_inputs (s : State) (b : Bool) : (s.setTgUnb b).inputs = s.inputs := rfl
@[simp] theorem State.setTgUnb_response (s : State) (b : Bool) : (s.setTgUnb b).response = s.response := rfl

@[simp] theorem State.startGovernor_crcAcc (s : State) : (s.startGovernor).crcAcc = s.crcAcc := rfl
@[simp] theorem State.startGovernor_crcExpect (s : State) : (s.startGovernor).crcExpect = s.crcExpect := rfl
@[simp] theorem State.startGovernor_tgBudget (s : State) : (s.startGovernor).tgBudget = s.tgBudget := rfl
@[simp] theorem State.startGovernor_tgUnb (s : State) : (s.startGovernor).tgUnb = s.tgUnb := rfl
@[simp] theorem State.startGovernor_tgStarted (s : State) : (s.startGovernor).tgStarted = true := rfl
@[simp] theorem State.startGovernor_tgStart (s : State) : (s.startGovernor).tgStart = s.now := rfl
@[simp] theorem State.startGovernor_now (s : State) : (s.startGovernor).now = s.now := rfl
@[simp] theorem State.startGovernor_inputs (s : State) : (s.startGovernor).inputs = s.inputs := rfl
@[simp] theorem State.startGovernor_response (s : State) : (s.startGovernor).response = s.response := rfl

@[simp] theorem State.discardGovernor_crcAcc (s : State) : (s.discardGovernor).crcAcc = s.crcAcc := rfl
@[simp] theorem State.discardGovernor_crcExpect (s : State) : (s.discardGovernor).crcExpect = s.crcExpect := rfl
@[simp] theorem State.discardGovernor_tgBudget (s : State) : (s.discardGovernor).tgBudget = s.tgBudget := rfl
@[simp] theorem State.discardGovernor_tgUnb (s : State) : (s.discardGovernor).tgUnb = s.tgUnb := rfl
@[simp] theorem State.discardGovernor_tgStarted (s : State) : (s.discardGovernor).tgStarted = false := rfl
@[simp] theorem State.discardGovernor_tgStart (s : State) : (s.discardGovernor).tgStart = s.tgStart := rfl
@[simp] theorem State.discardGovernor_now (s : State) : (s.discardGovernor).now = s.now := rfl
@[simp] theorem State.discardGovernor_inputs (s : State) : (s.discardGovernor).inputs = s.inputs := rfl
@[simp] theorem State.discardGovernor_response (s : State) : (s.discardGovernor).response = s.response := rfl

@[simp] theorem State.setNow_crcAcc (s : State) (t : Time) : (s.setNow t).crcAcc = s.crcAcc := rfl
@[simp] theorem State.setNow_crcExpect (s : State) (t : Time) : (s.setNow t).crcExpect = s.crcExpect := rfl
@[simp] theorem State.setNow_tgBudget (s : State) (t : Time) : (s.setNow t).tgBudget = s.tgBudget := rfl
@[simp] theorem State.setNow_tgUnb (s : State) (t : Time) : (s.setNow t).tgUnb = s.tgUnb := rfl
@[simp] theorem State.setNow_tgStarted (s : State) (t : Time) : (s.setNow t).tgStarted = s.tgStarted := rfl
@[simp] theorem State.setNow_tgStart (s : State) (t : Time) : (s.setNow t).tgStart = s.tgStart := rfl
@[simp] theorem State.setNow_now (s : State) (t : Time) : (s.setNow t).now = t := rfl
@[simp] theorem State.setNow_inputs (s : State) (t : Time) : (s.setNow t).inputs = s.inputs := rfl
@[simp] theorem State.setNow_response (s : State) (t : Time) : (s.setNow t).response = s.response := rfl

@[simp] theorem State.setInputs_crcAcc (s : State) (es : List Event) : (s.setInputs es).crcAcc = s.crcAcc := rfl
@[simp] theorem State.setInputs_crcExpect (s : State) (es : List Event) : (s.setInputs es).crcExpect = s.crcExpect := rfl
@[simp] theorem State.setInputs_tgBudget (s : State) (es : List Event) : (s.setInputs es).tgBudget = s.tgBudget := rfl
@[simp] theorem State.setInputs_tgUnb (s : State) (es : List Event) : (s.setInputs es).tgUnb = s.tgUnb := rfl
@[simp] theorem State.setInputs_tgStarted (s : State) (es : List Event) : (s.setInputs es).tgStarted = s.tgStarted := rfl
@[simp] theorem State.setInputs_tgStart (s : State) (es : List Event) : (s.setInputs es).tgStart = s.tgStart := rfl
@[simp] theorem State.setInputs_now (s : State) (es : List Event) : (s.setInputs es).now = s.now := rfl
@[simp] theorem State.setInputs_inputs (s : State) (es : List Event) : (s.setInputs es).inputs = es := rfl
@[simp] theorem State.setInputs_response (s : State) (es : List Event) : (s.setInputs es).response = s.response := rfl

@[simp] theorem State.setResponse_crcAcc (s : State) (r : Response) : (s.setResponse r).crcAcc = s.crcAcc := rfl
@[simp] theorem State.setResponse_crcExpect (s : State) (r : Response) : (s.setResponse r).crcExpect = s.crcExpect := rfl
@[simp] theorem State.setResponse_tgBudget (s : State) (r : Response) : (s.setResponse r).tgBudget = s.tgBudget := rfl
@[simp] theorem State.setResponse_tgUnb (s : State) (r : Response) : (s.setResponse r).tgUnb = s.tgUnb := rfl
@[simp] theorem State.setResponse_tgStarted (s : State) (r : Response) : (s.setResponse r).tgStarted = s.tgStarted := rfl
@[simp] theorem State.setResponse_tgStart (s : State) (r : Response) : (s.setResponse r).tgStart = s.tgStart := rfl
@[simp] theorem State.setResponse_now (s : State) (r : Response) : (s.setResponse r).now = s.now := rfl
@[simp] theorem State.setResponse_inputs (s : State) (r : Response) : (s.setResponse r).inputs = s.inputs := rfl
@[simp] theorem State.setResponse_response (s : State) (r : Response) : (s.setResponse r).response = some r := rfl

@[simp] theorem resetBlock_crcAcc (s : State) : (resetBlock s).crcAcc = Params.crcSeed := rfl
@[simp] theorem resetBlock_crcExpect (s : State) : (resetBlock s).crcExpect = 0 := rfl
@[simp] theorem resetBlock_tgBudget (s : State) : (resetBlock s).tgBudget = 0 := rfl
@[simp] theorem resetBlock_tgUnb (s : State) : (resetBlock s).tgUnb = false := rfl
@[simp] theorem resetBlock_tgStarted (s : State) : (resetBlock s).tgStarted = false := rfl
@[simp] theorem resetBlock_tgStart (s : State) : (resetBlock s).tgStart = 0 := rfl
@[simp] theorem resetBlock_now (s : State) : (resetBlock s).now = s.now := rfl
@[simp] theorem resetBlock_inputs (s : State) : (resetBlock s).inputs = s.inputs := rfl
@[simp] theorem resetBlock_response (s : State) : (resetBlock s).response = s.response := rfl

@[simp] theorem State.launch_crcAcc (n : Time) : (State.launch n).crcAcc = Params.crcSeed := rfl
@[simp] theorem State.launch_crcExpect (n : Time) : (State.launch n).crcExpect = 0 := rfl
@[simp] theorem State.launch_tgBudget (n : Time) : (State.launch n).tgBudget = 0 := rfl
@[simp] theorem State.launch_tgUnb (n : Time) : (State.launch n).tgUnb = false := rfl
@[simp] theorem State.launch_tgStarted (n : Time) : (State.launch n).tgStarted = false := rfl
@[simp] theorem State.launch_tgStart (n : Time) : (State.launch n).tgStart = 0 := rfl
@[simp] theorem State.launch_now (n : Time) : (State.launch n).now = n := rfl
@[simp] theorem State.launch_inputs (n : Time) : (State.launch n).inputs = [] := rfl
@[simp] theorem State.launch_response (n : Time) : (State.launch n).response = none := rfl

end Sys2Proof.Machine
end

