-- ==== Sys2Proof/Laws/Ops.lean ====
section
/-! SUPPORT. What the shared ends of a transaction can do (`respond`, `raise`, `checkedWrite`), and when an operand's
reserved bits are set. -/

namespace Sys2Proof.Machine

/-! ## How a transaction ends -/

theorem respond_eq_next_iff (v : Word) (s t : State) :
    respond v s = .next t ↔ t = s.setResponse { err := false, rdata := v } := by
  simp [respond, eq_comm]

theorem raise_eq_next_iff (e : ErrCause) (s t : State) :
    raise e s = .next t ↔ t = s.setResponse { err := true, rdata := e.code } := by
  simp [raise, eq_comm]

theorem checkedWrite_illegal (effect : State → State) (s : State) : checkedWrite true effect s = raise .value s := rfl

theorem checkedWrite_legal (effect : State → State) (s : State) :
    checkedWrite false effect s = respond 0 (effect s) := rfl

/-- Everything a checked write can do: refuse with `ERR_VALUE`, or have its effect and respond 0. -/
theorem checkedWrite_cases {illegal : Bool} {effect : State → State} {s t : State}
    (h : checkedWrite illegal effect s = .next t) :
    (illegal = true ∧ t = s.setResponse { err := true, rdata := 5 }) ∨
      (illegal = false ∧ t = (effect s).setResponse { err := false, rdata := 0 }) := by
  cases illegal
  · exact .inr ⟨rfl, (respond_eq_next_iff _ _ _).mp h⟩
  · exact .inl ⟨rfl, (raise_eq_next_iff _ _ _).mp h⟩

/-! ## Reserved bits of an operand -/

/-- Bits `n` and above of a word are not all zero exactly when the word is at least `2 ^ n`. -/
theorem highBits_ne_zero (v : Word) (n m : Nat) (hn : n + m = 32) :
    (v.extractLsb' n m != 0) = decide (2 ^ n ≤ v.toNat) := by
  have hdiv : v.toNat / 2 ^ n < 2 ^ m := by
    rw [Nat.div_lt_iff_lt_mul (Nat.two_pow_pos n), ← Nat.pow_add, show m + n = 32 from (Nat.add_comm m n).trans hn]
    exact v.isLt
  rw [Bool.eq_iff_iff, bne_iff_ne, decide_eq_true_eq, ne_eq, BitVec.toNat_eq, BitVec.extractLsb'_toNat,
    Nat.shiftRight_eq_div_pow, Nat.mod_eq_of_lt hdiv]
  have := Nat.two_pow_pos n
  simp [Nat.div_eq_zero_iff]

theorem reservedAbove1_eq (v : Word) : reservedAbove1 v = decide (2 ≤ v.toNat) := highBits_ne_zero v 1 31 rfl

theorem reservedAbove2_eq (v : Word) : reservedAbove2 v = decide (4 ≤ v.toNat) := highBits_ne_zero v 2 30 rfl

theorem reservedAbove8_eq (v : Word) : reservedAbove8 v = decide (256 ≤ v.toNat) := highBits_ne_zero v 8 24 rfl

theorem reservedAbove16_eq (v : Word) : reservedAbove16 v = decide (65536 ≤ v.toNat) := highBits_ne_zero v 16 16 rfl

end Sys2Proof.Machine
end

