-- ==== Sys2Proof/Laws/Port.lean ====
section
/-! SUPPORT. What one act of each agent can do, and how a sequence of acts is taken apart. -/

namespace Sys2Proof.Machine

theorem transact_ok {t : TransactionWord} {i : Instr} (s : State) (h : decode t = .ok i) : transact t s = exec i s := by
  unfold transact; rw [h]

theorem transact_error {t : TransactionWord} {e : ErrCause} (s : State) (h : decode t = .error e) :
    transact t s = .next (s.setResponse { err := true, rdata := e.code }) := by
  unfold transact; rw [h]; rfl

/-- Everything a tick can do when it answers a next state. -/
theorem tickNow_cases {s t : State} (h : tickNow s = .next t) :
    s.now.toNat + 1 < 2 ^ 64 ∧ t = s.setNow (s.now + 1) ∧ t.now.toNat = s.now.toNat + 1 := by
  unfold tickNow at h
  split at h
  · cases h
  · rename_i hne
    cases h
    have hlt : s.now.toNat + 1 < 2 ^ 64 := by
      by_contra hc
      apply hne
      apply BitVec.eq_of_toNat_eq
      have := s.now.isLt
      rw [BitVec.toNat_allOnes]
      omega
    refine ⟨hlt, rfl, ?_⟩
    rw [State.setNow_now, BitVec.toNat_add]
    simp
    omega

theorem applyEvents_nil (s : State) : applyEvents [] s = .next s := rfl

theorem applyEvents_cons_next {e : Event} {s u : State} (es : List Event) (h : applyEvent e s = .next u) :
    applyEvents (e :: es) s = applyEvents es u := by
  simp only [applyEvents, h]

/-- A sequence that answers a next state did so act by act. -/
theorem applyEvents_cons_cases {e : Event} {es : List Event} {s t : State} (h : applyEvents (e :: es) s = .next t) :
    ∃ u, applyEvent e s = .next u ∧ applyEvents es u = .next t := by
  simp only [applyEvents] at h
  cases he : applyEvent e s with
  | next u => rw [he] at h; exact ⟨u, rfl, h⟩
  | fault f => rw [he] at h; cases h
  | refused r => rw [he] at h; cases h

theorem applyEvents_append_next {es : List Event} {s u : State} (fs : List Event) (h : applyEvents es s = .next u) :
    applyEvents (es ++ fs) s = applyEvents fs u := by
  induction es generalizing s with
  | nil => cases h; rfl
  | cons e es ih =>
    obtain ⟨v, he, hes⟩ := applyEvents_cons_cases h
    rw [List.cons_append, applyEvents_cons_next _ he]
    exact ih hes

theorem step_nil {s : State} (h : s.inputs = []) : step s = .next s := by
  unfold step; rw [h]

theorem step_cons {s : State} {e : Event} {es : List Event} (h : s.inputs = e :: es) :
    step s = applyEvent e (s.setInputs es) := by
  unfold step; rw [h]

/-- The word a fetch word stands for is the very next act, and the acts after it are untouched. -/
theorem step_withFetchWord (s : State) (nbits w : Nat) :
    step (s.withFetchWord nbits w) = transact (tableWord nbits w) s := rfl

end Sys2Proof.Machine
end

