-- ==== Sys2Proof/Laws/HostSide.lean ====
section
/-! SUPPORT. Sequences of transactions: how they are put together and what the host sees of them, and what the reads of
the error report can do. -/

namespace Sys2Proof.Machine

theorem hostRun_nil (s : State) : hostRun [] s = .next s := rfl

theorem hostRun_singleton (t : TransactionWord) (s : State) : hostRun [t] s = transact t s := by
  show (match transact t s with
    | .next s' => Host.Outcome.next s'
    | .fault f => .fault f
    | .refused r => .refused r) = transact t s
  cases transact t s <;> rfl

theorem hostRun_append_next {ts : List TransactionWord} {s u : State} (us : List TransactionWord)
    (h : hostRun ts s = .next u) : hostRun (ts ++ us) s = hostRun us u := by
  simpa only [hostRun, List.map_append] using applyEvents_append_next (us.map .transaction) h

/-- Everything the host can see of a sequence of transactions. -/
theorem hostAnswer_eq_some_iff (ts : List TransactionWord) (s t : State) (r : Response) :
    hostAnswer ts s = some (t, r) ↔ hostRun ts s = .next t ∧ t.response = some r := by
  unfold hostAnswer
  cases hostRun ts s with
  | next u =>
    simp only [Option.map_eq_some_iff, Prod.mk.injEq, Host.Outcome.next.injEq]
    constructor
    · rintro ⟨a, ha, rfl, rfl⟩; exact ⟨rfl, ha⟩
    · rintro ⟨rfl, ha⟩; exact ⟨r, ha, rfl, rfl⟩
  | fault f => simp
  | refused f => simp

theorem hostAnswer_rdCrcAcc (s : State) :
    hostAnswer [rd .crcAcc] s =
      some ({ s with response := some ⟨false, zextChecksum s.crcAcc⟩ }, ⟨false, zextChecksum s.crcAcc⟩) := rfl

theorem hostAnswer_rdCrcExpect (s : State) :
    hostAnswer [rd .crcExpect] s =
      some ({ s with response := some ⟨false, zextChecksum s.crcExpect⟩ }, ⟨false, zextChecksum s.crcExpect⟩) := rfl

/-- The low 16 bits of a checksum read through the port are the checksum. -/
theorem checksum_zextChecksum (err : Bool) (c : Checksum) : (Response.mk err (zextChecksum c)).checksum = c := by
  apply BitVec.eq_of_getLsbD_eq
  intro i hi
  simp [Response.checksum, zextChecksum, hi]
  omega

/-- The error report, from every state: both registers' values, and nothing changed but the response. -/
theorem checkReport_eq (s : State) :
    checkReport s = some ({ s with response := some ⟨false, zextChecksum s.crcExpect⟩ },
      .checksumMismatch s.crcAcc s.crcExpect) := by
  unfold checkReport
  simp only [hostAnswer_rdCrcAcc, hostAnswer_rdCrcExpect, checksum_zextChecksum]

end Sys2Proof.Machine
end

