-- ==== Sys2Proof/Laws/PerInstr.lean ====
section
/-! SUPPORT. Per-instruction family `EncodedFields`: the fields of an operation's transaction word (30_encoding.md R70,
R80): `WE` set exactly for a write, `RSV` 0, `ADDR` the register's offset, `WDATA` the operand of a write and 0 of a
read. -/

namespace Sys2Proof.Laws.EncodedFields

/-- The fields of the word that encodes an operation. -/
def Statement (i : Instr) : Prop :=
  fieldWE (encode i) = i.operand.isSome ∧ fieldRSV (encode i) = false ∧ fieldADDR (encode i) = i.reg.offset ∧
    fieldWDATA (encode i) = i.operand.getD 0

/-- The header byte of an access to an offset. -/
def accessHeader (we : Bool) (a : Offset) : Byte := BitVec.ofBool we ++ 0#1 ++ a

theorem accessHeader_fields (we : Bool) (r : Reg) :
    (accessHeader we r.offset).getLsbD 7 = we ∧ (accessHeader we r.offset).getLsbD 6 = false ∧
      (accessHeader we r.offset).extractLsb' 0 6 = r.offset := by
  cases we <;> cases r <;> exact ⟨rfl, rfl, rfl⟩

theorem writeWord_fields (r : Reg) (v : Word) :
    fieldWE (writeWord r.offset v) = true ∧ fieldRSV (writeWord r.offset v) = false ∧
      fieldADDR (writeWord r.offset v) = r.offset ∧ fieldWDATA (writeWord r.offset v) = v := by
  have h : writeWord r.offset v = accessHeader true r.offset ++ v := rfl
  obtain ⟨hw, hr, ha⟩ := accessHeader_fields true r
  rw [h, fieldWE_header_data, fieldRSV_header_data, fieldADDR_header_data, fieldWDATA_header_data]
  exact ⟨hw, hr, ha, rfl⟩

theorem readWord_fields (r : Reg) :
    fieldWE (readWord r.offset) = false ∧ fieldRSV (readWord r.offset) = false ∧
      fieldADDR (readWord r.offset) = r.offset ∧ fieldWDATA (readWord r.offset) = 0 := by
  have h : readWord r.offset = accessHeader false r.offset ++ (0 : Word) := rfl
  obtain ⟨hw, hr, ha⟩ := accessHeader_fields false r
  rw [h, fieldWE_header_data, fieldRSV_header_data, fieldADDR_header_data, fieldWDATA_header_data]
  exact ⟨hw, hr, ha, rfl⟩

theorem wrCrcCtrl (v : Word) : Statement (.wrCrcCtrl v) := writeWord_fields .crcCtrl v

theorem wrCrcData (v : Word) : Statement (.wrCrcData v) := writeWord_fields .crcData v

theorem rdCrcAcc : Statement .rdCrcAcc := readWord_fields .crcAcc

theorem wrCrcExpect (v : Word) : Statement (.wrCrcExpect v) := writeWord_fields .crcExpect v

theorem rdCrcExpect : Statement .rdCrcExpect := readWord_fields .crcExpect

theorem rdCrcStatus : Statement .rdCrcStatus := readWord_fields .crcStatus

theorem wrTgBudget (v : Word) : Statement (.wrTgBudget v) := writeWord_fields .tgBudget v

theorem rdTgBudget : Statement .rdTgBudget := readWord_fields .tgBudget

theorem wrTgMode (v : Word) : Statement (.wrTgMode v) := writeWord_fields .tgMode v

theorem rdTgMode : Statement .rdTgMode := readWord_fields .tgMode

theorem wrTgCtrl (v : Word) : Statement (.wrTgCtrl v) := writeWord_fields .tgCtrl v

theorem rdTgStatus : Statement .rdTgStatus := readWord_fields .tgStatus

theorem rdTgRemaining : Statement .rdTgRemaining := readWord_fields .tgRemaining

end Sys2Proof.Laws.EncodedFields
end

