-- ==== Sys2Proof/Laws/Tg.lean ====
section
/-! SUPPORT. The two branches of `remaining`, the bits of the status word, and the effect of each governor command. -/

namespace Sys2Proof.Machine

theorem remaining_before {e : Nat} {b : Word} (f : Word) (h : e < b.toNat) :
    remaining f e b = b - BitVec.ofNat 32 e := if_pos h

theorem remaining_after {e : Nat} {b : Word} (f : Word) (h : b.toNat ≤ e) : remaining f e b = f :=
  if_neg (Nat.not_lt.mpr h)

theorem tgStatusWord_started (s : State) : (tgStatusWord s).getLsbD 0 = s.tgStarted := by
  unfold tgStatusWord
  cases s.tgUnb <;> cases expiredBit s <;> cases s.tgStarted <;> rfl

theorem tgStatusWord_expired (s : State) : (tgStatusWord s).getLsbD 1 = expiredBit s := by
  unfold tgStatusWord
  cases s.tgUnb <;> cases expiredBit s <;> cases s.tgStarted <;> rfl

theorem tgStatusWord_unbounded (s : State) : (tgStatusWord s).getLsbD 2 = s.tgUnb := by
  unfold tgStatusWord
  cases s.tgUnb <;> cases expiredBit s <;> cases s.tgStarted <;> rfl

theorem tgCommand_start (s : State) : tgCommand 0x1 s = s.startGovernor := rfl

theorem tgCommand_discard (s : State) : tgCommand 0x2 s = s.discardGovernor := rfl

/-- Everything a governor command can do. -/
theorem tgCommand_cases (v : Word) (s : State) :
    (v = 0x1 ∧ tgCommand v s = s.startGovernor) ∨ (v = 0x2 ∧ tgCommand v s = s.discardGovernor) ∨
      (v ≠ 0x1 ∧ v ≠ 0x2 ∧ tgCommand v s = s) := by
  unfold tgCommand
  split
  · exact .inl ⟨‹_›, rfl⟩
  · split
    · exact .inr (.inl ⟨‹_›, rfl⟩)
    · exact .inr (.inr ⟨‹_›, ‹_›, rfl⟩)

end Sys2Proof.Machine
end

