-- ==== Sys2Proof/Tests/Slice0.lean ====
section
/-! SUPPORT. The model's own tests. Expected values come from the spec's tables and worked examples
(30_encoding.md R73, R75; 95_test_vectors.md V1 to V11), named at each group. The second half shows, for every statement
of Certificates/Slice0/Obligations.lean that has hypotheses, a concrete state and operands that meet them. -/

namespace Sys2Proof.Tests

open Sys2Proof Sys2Proof.Machine

/-- The next state of an outcome, if it is one. -/
def after : Host.Outcome State Fault Refusal → Option State
  | .next s => some s
  | .fault _ => none
  | .refused _ => none

/-- The response the host sees after an outcome. -/
def answer (o : Host.Outcome State Fault Refusal) : Option Response := (after o).bind (·.response)

/-- The start state of V9. -/
def idle : State where
  crcAcc := 0xABCD
  crcExpect := 0x1111
  tgBudget := 7
  tgUnb := false
  tgStarted := false
  tgStart := 0
  now := 9
  inputs := []
  response := none

/-- The state of V8 rows 15 to 19: budget 100, started at 1000, at the time given. -/
def running (now : Time) : State := { idle with tgBudget := 100, tgStarted := true, tgStart := 1000, now := now }

/-- `running` with an unbounded budget. -/
def unbounded (now : Time) : State := { running now with tgUnb := true }

/-! ## WellFormed refuses what R25, R26, R28, R30, R32 call illegal -/

theorem test_wellFormed_refuses_crcCtrl : (Instr.wrCrcCtrl 0x2).wellFormed = false := by decide
theorem test_wellFormed_refuses_crcData : (Instr.wrCrcData 0x100).wellFormed = false := by decide
theorem test_wellFormed_refuses_crcExpect : (Instr.wrCrcExpect 0x10000).wellFormed = false := by decide
theorem test_wellFormed_refuses_tgMode : (Instr.wrTgMode 0x2).wellFormed = false := by decide
theorem test_wellFormed_refuses_tgCtrl : (Instr.wrTgCtrl 0x3).wellFormed = false := by decide

/-! ## Decoding: every operation's word, from R73 and R75, header byte then `WDATA` (R70) -/

theorem test_decode_wrCrcCtrl : decode 0x8000000001 = .ok (.wrCrcCtrl 0x1) := by rfl
theorem test_decode_wrCrcData : decode 0x8400000039 = .ok (.wrCrcData 0x39) := by rfl
theorem test_decode_rdCrcAcc : decode 0x0800000000 = .ok .rdCrcAcc := by rfl
theorem test_decode_wrCrcExpect : decode 0x8C00004B37 = .ok (.wrCrcExpect 0x4B37) := by rfl
theorem test_decode_rdCrcExpect : decode 0x0C00000000 = .ok .rdCrcExpect := by rfl
theorem test_decode_rdCrcStatus : decode 0x1000000000 = .ok .rdCrcStatus := by rfl
theorem test_decode_wrTgBudget : decode 0xA4FFFFFFFF = .ok (.wrTgBudget 0xFFFFFFFF) := by rfl
theorem test_decode_rdTgBudget : decode 0x2400000000 = .ok .rdTgBudget := by rfl
theorem test_decode_wrTgMode : decode 0xA800000001 = .ok (.wrTgMode 0x1) := by rfl
theorem test_decode_rdTgMode : decode 0x2800000000 = .ok .rdTgMode := by rfl
theorem test_decode_wrTgCtrl : decode 0xA000000002 = .ok (.wrTgCtrl 0x2) := by rfl
theorem test_decode_rdTgStatus : decode 0x2C00000000 = .ok .rdTgStatus := by rfl
theorem test_decode_rdTgRemaining : decode 0x3000000000 = .ok .rdTgRemaining := by rfl

/-- R70: the printed form is the header byte, then `WDATA` most significant byte first. -/
theorem test_decode_printed_bytes :
    decodeBytes [0xA4, 0x12, 0x34, 0x56, 0x78] = some (.ok (.wrTgBudget 0x12345678)) := by rfl

/-- V9: the rows in order (the response's code of every refusal, and the last three rows' answers). -/
theorem test_refusal_codes :
    ([0xC000000001, 0x4000000000, 0xE5FFFFFFFF, 0x8900010000, 0x0100000000, 0x9400000000, 0x1400000000, 0x3C00000000,
      0x8800000100, 0x9000000000, 0xAC00000000, 0xB000000000, 0x0000000000, 0x0400000000, 0x2000000000, 0x8000000002,
      0x8400000100, 0x8C00010000, 0xA000000003, 0xA000000007, 0xA800000002, 0x3000000000].map
        fun t => answer (transact t idle)) =
      [1, 1, 1, 2, 2, 3, 3, 3, 4, 4, 4, 4, 4, 4, 4, 5, 5, 5, 5, 5, 5, 6].map fun c => some ⟨true, c⟩ := by decide

/-! ## One step per operation: V6 and V8 -/

theorem test_wrCrcCtrl_init : after (transact 0x8000000001 { idle with crcAcc := 0x4B37 }) =
    some { idle with crcAcc := 0xFFFF, response := some ⟨false, 0⟩ } := by decide
theorem test_wrCrcCtrl_zero : after (transact 0x8000000000 idle) = some { idle with response := some ⟨false, 0⟩ } := by
  decide
theorem test_wrCrcData : after (transact 0x8400000039 { idle with crcAcc := 0x37DD }) =
    some { idle with crcAcc := 0x4B37, response := some ⟨false, 0⟩ } := by decide
theorem test_wrCrcData_zero : after (transact 0x8400000000 { idle with crcAcc := 0xFFFF }) =
    some { idle with crcAcc := 0x40BF, response := some ⟨false, 0⟩ } := by decide
theorem test_rdCrcAcc : answer (transact 0x08DEADBEEF idle) = some ⟨false, 0xABCD⟩ := by decide
theorem test_wrCrcExpect : after (transact 0x8C00004B37 idle) =
    some { idle with crcExpect := 0x4B37, response := some ⟨false, 0⟩ } := by decide
theorem test_rdCrcExpect : answer (transact 0x0C00000000 idle) = some ⟨false, 0x1111⟩ := by decide
theorem test_rdCrcStatus_match :
    answer (transact 0x1000000000 { idle with crcAcc := 0x4B37, crcExpect := 0x4B37 }) = some ⟨false, 1⟩ := by decide
theorem test_rdCrcStatus_swapped :
    answer (transact 0x1000000000 { idle with crcAcc := 0x4B37, crcExpect := 0x374B }) = some ⟨false, 0⟩ := by decide
theorem test_wrTgBudget : after (transact 0xA4FFFFFFFF idle) =
    some { idle with tgBudget := 0xFFFFFFFF, response := some ⟨false, 0⟩ } := by decide
theorem test_rdTgBudget : answer (transact 0x2400000000 (running 1000)) = some ⟨false, 0x64⟩ := by decide
theorem test_wrTgMode : after (transact 0xA800000001 idle) =
    some { idle with tgUnb := true, response := some ⟨false, 0⟩ } := by decide
theorem test_rdTgMode : answer (transact 0x2800000000 (unbounded 1000)) = some ⟨false, 1⟩ := by decide
theorem test_wrTgCtrl_restart : after (transact 0xA000000001 (running 1030)) =
    some { running 1030 with tgStart := 1030, response := some ⟨false, 0⟩ } := by decide
theorem test_wrTgCtrl_discard : after (transact 0xA000000002 (running 1030)) =
    some { running 1030 with tgStarted := false, response := some ⟨false, 0⟩ } := by decide
theorem test_rdTgStatus_before : answer (transact 0x2C00000000 (running 1099)) = some ⟨false, 1⟩ := by decide
theorem test_rdTgStatus_expired : answer (transact 0x2C00000000 (running 1100)) = some ⟨false, 3⟩ := by decide
theorem test_rdTgRemaining : answer (transact 0x3000000000 (running 1040)) = some ⟨false, 0x3C⟩ := by decide
theorem test_rdTgRemaining_unbounded : answer (transact 0x3000000000 (unbounded 1040)) = some ⟨false, 0xFFFFFFFF⟩ := by
  decide

/-! ## Functions: V1, V4, V7 -/

set_option maxRecDepth 20000 in
theorem test_crc16_rows : [[], [0x00], [0xFF], [0x00, 0x01], [0xFF, 0xFF], [0x11, 0x03, 0x00, 0x6B, 0x00, 0x03]].map
    crc16 = [0xFFFF, 0x40BF, 0x00FF, 0x70C0, 0x0000, 0x8776] := by decide
set_option maxRecDepth 20000 in
theorem test_crcTable : [0x08, 0x10, 0x80, 0xFE].map crcTable = [0xC601, 0xCC01, 0xA001, 0x8081] := by decide

/-- V7 rows 4, 5, 6, 8, 13, 15, 16: `expired`, and `remaining` under each admitted floor. -/
theorem test_governor_functions :
    ([(99, 100), (100, 100), (101, 100), (0, 0), (0xFFFFFFFE, 0xFFFFFFFF), (0x100000000, 0xFFFFFFFF), (2 ^ 40, 5)].map
      fun (e, b) => (expired e b false, remaining 0 e b, remaining 1 e b)) =
    [(false, 1, 1), (true, 0, 1), (true, 0, 1), (true, 0, 1), (false, 1, 1), (true, 0, 1), (true, 0, 1)] := by decide

/-! ## Frame functions: V10 -/

theorem test_frameEncode_empty_payload : frameEncode [0x73, 0x74, 0x61, 0x74] =
    .ok [0x73, 0x74, 0x61, 0x74, 0xFF, 0xFF] := by rfl
theorem test_frameEncode_short : frameEncode [0x6D, 0x6F, 0x76] = .error .frameTooShortToSend := by rfl
theorem test_frameAcquire_leading_zeros :
    frameAcquire [0, 0, 0, 0x6D, 0x6F, 0x76, 0x65, 0x10, 0x27, 0, 0, 0xB4, 0xEF, 0xAA, 0xBB] 8 =
      some ([0x6D, 0x6F, 0x76, 0x65, 0x10, 0x27, 0, 0, 0xB4, 0xEF], [0xAA, 0xBB]) := by decide
theorem test_frameAcquire_waits :
    frameAcquire [0x6D, 0x6F, 0x76, 0x65, 0x10, 0x27, 0, 0, 0xB4, 0xEF] 64 = none := by decide
set_option maxRecDepth 20000 in
theorem test_frameDecode_payload :
    frameDecode [0x67, 0x70, 0x6F, 0x73, 0, 0, 0, 0, 0, 0x24] = .ok [0, 0, 0, 0] := by rfl
set_option maxRecDepth 20000 in
theorem test_frameDecode_shifted :
    frameDecode [0x6F, 0x76, 0x65, 0x10, 0x27, 0, 0, 0xB4, 0xEF, 0x11] =
      .error (.checksumMismatch 0xE70A 0x11EF) := by rfl
set_option maxRecDepth 20000 in
theorem test_frameDecode_sentinel : frameDecode [0x65, 0x72, 0x72, 0x64, 0, 0, 0x01, 0xB0] =
    .error .deviceChecksumError := by rfl
theorem test_frameDecode_checksum_first : frameDecode [0x65, 0x72, 0x72, 0x63, 0, 0] =
    .error (.checksumMismatch 0xFFFF 0) := by rfl
theorem test_frameDecode_partial_echo : frameDecode [0x65, 0x72, 0xFF, 0xFF] = .ok [] := by rfl
theorem test_frameDecode_malformed : frameDecode [0xFF] = .error .malformedFrame := by rfl

/-- V10 row 10: the host's report is read from the block on `MATCH = 0`, and none is read on a good frame (row 6). -/
theorem test_checkFrame :
    (checkFrame [0x65, 0x72, 0x72, 0x63, 0, 0] idle).map (·.1.response) = some (some ⟨false, 0⟩) ∧
    (checkFrame [0x73, 0x74, 0x61, 0x74, 0xFF, 0xFF] idle).map (·.1.response) = some (some ⟨false, 1⟩) := by decide
theorem test_checkReport : (checkReport idle).map (·.2) = some (.checksumMismatch 0xABCD 0x1111) := by decide

/-- R170: a read size of 0 or less is the default. -/
theorem test_askSize : [askSize (-1), askSize 0, askSize 1] = [64, 64, 1] := by decide

/-! ## Agents and the host's interface -/

/-- V11: reset from a running state keeps `NOW` alone. -/
theorem test_reset_event :
    after (applyEvent .reset { unbounded 1040 with crcAcc := 0x37DD, crcExpect := 0x4B37 }) = some (State.launch 1040) := by
  decide

/-- V11: a start right after reset, and a check: expired at once. -/
theorem test_start_after_reset :
    answer (applyEvents [.reset, .transaction 0xA000000001, .transaction 0x2C00000000] (unbounded 1040)) =
      some ⟨false, 3⟩ := by decide

/-- R36: one tick. -/
theorem test_tick : after (applyEvent .tick (running 1040)) = some (running 1041) := by decide
theorem test_tick_at_top : applyEvent .tick { idle with now := 0xFFFFFFFFFFFFFFFF } = .fault .nowAtTop := by rfl

/-- R79: assembler lines with a tick and an expected response (41_timeout.md R140's bits). -/
theorem test_assembler_lines :
    (runLines [.wr (.named .tgBudget) (.number 1), .wr (.named .tgCtrl) .START, .tick 1, .rd (.named .tgStatus),
      .expect false 0x3] idle).isSome = true := by decide

/-- The table word of `RD CRC_ACC` runs as the first transaction after reset (R39: `CRC_ACC` is `0xFFFF`). -/
theorem test_withFetchWord_runs :
    decodeTableWord 40 0x0800000000 = some .rdCrcAcc ∧
    answer (step (State.reset.withFetchWord 40 0x0800000000)) = some ⟨false, 0xFFFF⟩ := by decide

/-! ## Witnesses: hypotheses of the statements that can be met -/

theorem witness_EncodedInstructionDecodesBack :
    (Instr.wrCrcCtrl 0x1).wellFormed = true ∧ (Instr.wrCrcData 0xFF).wellFormed = true ∧
    (Instr.wrCrcExpect 0xFFFF).wellFormed = true ∧ (Instr.wrTgBudget 0xFFFFFFFF).wellFormed = true ∧
    (Instr.wrTgMode 0x1).wellFormed = true ∧ (Instr.wrTgCtrl 0x2).wellFormed = true ∧
    Instr.rdTgRemaining.wellFormed = true := by decide

theorem witness_AcceptedWordIsItsOperationsEncoding :
    (decode 0xA000000002 = .ok (.wrTgCtrl 0x2) ∧ (0xA000000002 : TransactionWord).getLsbD 39 = true) ∧
    decode 0x08FFFFFFFF = .ok .rdCrcAcc ∧ (0x08FFFFFFFF : TransactionWord).getLsbD 39 = false := by
  exact ⟨⟨rfl, rfl⟩, rfl, rfl⟩

theorem witness_OnlyThirteenHeadersSelectOperations :
    ∀ h ∈ [0x00#8, 0x01, 0x14, 0x3C, 0x40, 0x88, 0xB0, 0xC0, 0xFF],
      h ∉ [0x80#8, 0x84, 0x08, 0x8C, 0x0C, 0x10, 0xA0, 0xA4, 0x24, 0xA8, 0x28, 0x2C, 0x30] := by decide

/-- A word for each clause in order: the bits the clauses speak of are `WE`, `RSV`, `ADDR` and `WDATA`. -/
theorem witness_IllegalWordIsRefusedByFirstFailingTest :
    let rsv (t : TransactionWord) := t.getLsbD 38
    let we (t : TransactionWord) := t.getLsbD 39
    let addr (t : TransactionWord) := t.extractLsb' 32 6
    let v (t : TransactionWord) := t.extractLsb' 0 32
    rsv 0xFFFFFFFFFF = true ∧
    (rsv 0x0300000000 = false ∧ (addr 0x0300000000).extractLsb' 0 2 ≠ 0) ∧
    (rsv 0x1400000000 = false ∧ addr 0x1400000000 = 0x14 ∧ addr 0xBC00000000 = 0x3C) ∧
    (rsv 0x8800000100 = false ∧ we 0x8800000100 = true ∧ addr 0x8800000100 = 0x08 ∧ addr 0xB000000000 = 0x30) ∧
    (rsv 0x2000000000 = false ∧ we 0x2000000000 = false ∧ addr 0x2000000000 = 0x20 ∧ addr 0x0000000000 = 0x00) ∧
    (rsv 0x8000000002 = false ∧ we 0x8000000002 = true ∧ addr 0x8000000002 = 0x00 ∧ 0x1 < v 0x8000000002) ∧
    (rsv 0x8400000100 = false ∧ we 0x8400000100 = true ∧ addr 0x8400000100 = 0x04 ∧ 0xFF < v 0x8400000100) ∧
    (rsv 0x8C00010000 = false ∧ we 0x8C00010000 = true ∧ addr 0x8C00010000 = 0x0C ∧ 0xFFFF < v 0x8C00010000) ∧
    (rsv 0xA800000002 = false ∧ we 0xA800000002 = true ∧ addr 0xA800000002 = 0x28 ∧ 0x1 < v 0xA800000002) ∧
    (rsv 0xA000000003 = false ∧ we 0xA000000003 = true ∧ addr 0xA000000003 = 0x20 ∧ 0x2 < v 0xA000000003) := by decide

/-- The clause on words that decode to nothing: one word for each of the first five causes. -/
theorem witness_IllegalWord_not_an_operation :
    decode 0x4000000000 = .error .format ∧ decode 0x0100000000 = .error .align ∧ decode 0x3C00000000 = .error .addr ∧
    decode 0x0000000000 = .error .access ∧ decode 0xA000000003 = .error .value := ⟨rfl, rfl, rfl, rfl, rfl⟩

theorem witness_EveryTransactionIsAnswered :
    transact 0x8800000100 idle = .next { idle with response := some ⟨true, 4⟩ } := by rfl

theorem witness_OnlyNotStartedDependsOnState :
    transact 0x3000000000 idle = .next { idle with response := some ⟨true, 6⟩ } ∧
    transact 0xA000000003 idle = .next { idle with response := some ⟨true, 5⟩ } ∧ (5 : Word) ≠ 6 := by
  exact ⟨rfl, rfl, by decide⟩

theorem witness_StepRunsDecodedTransaction :
    (idle.prependInput (.transaction 0x0800000000)).inputs = .transaction 0x0800000000 :: [] ∧
    decode 0x0800000000 = .ok .rdCrcAcc ∧
    (idle.prependInput (.transaction 0x0000000000)).inputs = .transaction 0x0000000000 :: [] ∧
    decode 0x0000000000 = .error .access := ⟨rfl, rfl, rfl, rfl⟩

theorem witness_TickAdvancesTimeBaseByOne :
    (idle.prependInput .tick).inputs = .tick :: [] ∧
    ({ idle with now := 0xFFFFFFFFFFFFFFFE }).now.toNat < 2 ^ 64 - 1 ∧
    ({ idle with now := 0xFFFFFFFFFFFFFFFF }).now.toNat = 2 ^ 64 - 1 := by decide

theorem witness_ResetEventKeepsOnlyTimeBase : ((running 1040).prependInput .reset).inputs = .reset :: [] := by rfl

/-- At the boundary: the tick that reaches the top of the time base is the last the premise admits. -/
theorem witness_SequenceRunsAndCountsTicks :
    ({ idle with now := 0xFFFFFFFFFFFFFFFE }).now.toNat + tickCount [.tick, .transaction 0x4000000000, .reset] < 2 ^ 64 := by
  decide

theorem witness_SideEffectsOfReadsAndRepeatedWrites :
    isRead .rdTgRemaining = true ∧
    exec (.wrTgMode 0x2) idle = .next { idle with response := some ⟨true, 5⟩ } ∧
    exec (.wrTgCtrl 0x1) idle =
      .next { idle with tgStart := 9, tgStarted := true, response := some ⟨false, 0⟩ } ∧
    applyEvent .tick { idle with tgStart := 9, tgStarted := true, response := some ⟨false, 0⟩ } =
      .next { idle with tgStart := 9, tgStarted := true, now := 10, response := some ⟨false, 0⟩ } ∧
    decode 0xA000000003 = .error .value := ⟨rfl, rfl, rfl, rfl, rfl⟩

theorem witness_UnitsShareNoState :
    (isCrcOperation .rdCrcAcc = true ∧ sameCrcUnit idle (running 1100)) ∧
    isCrcOperation .rdTgStatus = false ∧ sameTgUnit (running 1100) { running 1100 with crcAcc := 0 } :=
  ⟨⟨rfl, rfl, rfl⟩, rfl, rfl, rfl, rfl, rfl, rfl⟩

theorem witness_EveryStepKeepsStartBeforeNow :
    (running 1040).Inv ∧ (running 1000).Inv ∧
    step ((running 1040).prependInput (.transaction 0xA000000001)) =
      .next { running 1040 with tgStart := 1040, response := some ⟨false, 0⟩ } := ⟨by decide, by decide, rfl⟩

/-- Operands on both sides of every legal range of the five checked writes (R104, R105, R107, R137, R139). -/
theorem witness_checked_write_operands :
    (0x1 : Word) < 0x2 ∧ (0x1 : Word) < 0xFFFFFFFF ∧ (0xFF : Word) ≤ 0xFF ∧ (0xFF : Word) < 0x100 ∧
    (0xFFFF : Word) ≤ 0xFFFF ∧ (0xFFFF : Word) < 0x10000 ∧ (0x2 : Word) < 0x3 ∧ (0x2 : Word) < 0x80000000 := by decide

theorem witness_AccumulatorIsChecksumOfBytesFed :
    (∀ e ∈ [Event.transaction 0x8400000031, .tick, .transaction 0xA000000003, .transaction 0x8000000000],
      restartsCrc e = false) ∧
    (∃ t, applyEvents [.reset, .transaction 0x8400000031, .tick, .transaction 0xA000000003, .transaction 0x8000000000]
      idle = .next t) ∧
    ∃ t, applyEvents [.transaction 0x8000000001, .transaction 0x8400000031] idle = .next t :=
  ⟨by decide, ⟨_, rfl⟩, ⟨_, rfl⟩⟩

/-- First and last byte of a payload. -/
theorem witness_CrcStepIsBijectiveAndLinear : 0 < ([0x10, 0x27] : Bytes).length ∧ 1 < ([0x10, 0x27] : Bytes).length := by
  decide

set_option maxRecDepth 20000 in
/-- V5's two flipped bits: one in the payload, one in the checksum. -/
theorem witness_SingleBitFlipNeverMatches :
    (0 < 4 + 2 ∧ (flipBit ([0x10, 0x27, 0, 0] ++ crcWire (crc16 [0x10, 0x27, 0, 0])) 0 0).drop 4 = [0xB4, 0xEF]) ∧
    5 < 4 + 2 ∧ (flipBit ([0x10, 0x27, 0, 0] ++ crcWire (crc16 [0x10, 0x27, 0, 0])) 4 0).drop 4 = [0xB5, 0xEF] := by
  decide

theorem witness_ReadTgStatusAnswersExpiry : (running 1100).Inv ∧ (running 1000).Inv ∧ idle.Inv := by decide

theorem witness_ReadTgRemainingAnswersTimeLeft :
    idle.tgStarted = false ∧ ((unbounded 1040).tgStarted = true ∧ (unbounded 1040).tgUnb = true) ∧
    (running 1100).tgStarted = true ∧ (running 1100).tgUnb = false ∧ (running 1100).Inv := by decide

theorem witness_RemainingIsBudgetMinusElapsedFloored : ((0 : Word) = 0 ∨ (0 : Word) = 1) ∧ ((1 : Word) = 0 ∨ (1 : Word) = 1) := by
  decide

theorem witness_ZeroBudgetExpiresAtEveryCheck :
    let s := { idle with tgBudget := 0 }
    s.tgUnb = false ∧ s.tgBudget = 0 ∧ (∀ e ∈ [Event.tick, .transaction 0x8400000001], leavesGovernor e = true) ∧
    (∃ t, applyEvents [.transaction 0xA000000001] s = .next t) ∧
    ∃ t, applyEvents [.transaction 0xA000000001, .tick, .transaction 0x8400000001] s = .next t :=
  ⟨rfl, rfl, by decide, ⟨_, rfl⟩, ⟨_, rfl⟩⟩

theorem witness_UnboundedBudgetNeverExpires :
    (unbounded 1000).tgUnb = true ∧ (unbounded 1000).tgStarted = true ∧
    (leavesGovernor .tick = true ∧ (0xA400000000 : TransactionWord) = 0xA4#8 ++ 0#32) ∧
    ∃ t, applyEvents [.tick, .transaction 0xA400000000] (unbounded 1000) = .next t :=
  ⟨rfl, rfl, ⟨rfl, rfl⟩, ⟨_, rfl⟩⟩

/-- The last event is a write the block refuses, which touches nothing. -/
theorem witness_ExpiryIsMonotone :
    exec .rdTgStatus (running 1100) = .next { running 1100 with response := some ⟨false, 0x3⟩ } ∧
    (∀ e ∈ [Event.tick, .transaction 0xA000000003], leavesGovernor e = true) ∧
    ∃ t, applyEvents [.tick, .transaction 0xA000000003] (running 1100) = .next t := ⟨rfl, by decide, ⟨_, rfl⟩⟩

theorem witness_RemainingFallsByTicksToFloor :
    (idle.tgUnb = false ∧ ∃ t, exec (.wrTgCtrl 0x1) idle = .next t) ∧
    (running 1099).Inv ∧ (running 1099).tgStarted = true ∧ (running 1099).tgUnb = false ∧
    (∀ e ∈ [Event.tick, .tick], leavesGovernor e = true) ∧ ∃ t, applyEvents [.tick, .tick] (running 1099) = .next t :=
  ⟨⟨rfl, ⟨_, rfl⟩⟩, by decide, rfl, rfl, by decide, ⟨_, rfl⟩⟩

theorem witness_QueriesAgreeAtOneInstant :
    expired 100 100 false = true ∧ remaining 1 99 100 = 1 ∧ expired 99 100 false = false := by decide

/-- One tick short of a budget of 7, and exactly 7 ticks. -/
theorem witness_ExpiryExactlyAfterBudgetTicks :
    idle.tgUnb = false ∧ (∀ e ∈ List.replicate 7 Event.tick, leavesGovernor e = true) ∧
    tickCount (List.replicate 6 .tick) < idle.tgBudget.toNat ∧ idle.tgBudget.toNat ≤ tickCount (List.replicate 7 .tick) ∧
    (∃ t, applyEvents (.transaction 0xA000000001 :: List.replicate 6 .tick) idle = .next t) ∧
    ∃ t, applyEvents (.transaction 0xA000000001 :: List.replicate 7 .tick) idle = .next t :=
  ⟨rfl, by decide, by decide, by decide, ⟨_, rfl⟩, ⟨_, rfl⟩⟩

theorem witness_HasExpiredIsValidOnlyWhenStarted :
    idle.tgStarted = false ∧ (running 1100).tgStarted = true ∧ (running 1100).Inv := by decide

theorem witness_FrameEncodeAppendsChecksum :
    ([0x6D, 0x6F, 0x76] : Bytes).length < 4 ∧ ([0x73, 0x74, 0x61, 0x74] : Bytes).length = 4 := by decide

theorem witness_FrameDecodeChecksThenInspectsEcho : ([] : Bytes).length < 2 ∧ ([0xFF] : Bytes).length < 2 := by decide

theorem witness_ShortFrameNeedsEmptyChecksum :
    ([] : Bytes).length < 4 ∧ ([0x65, 0x72, 0x72] : Bytes).length < 4 ∧
    frameAcquire [0, 0x73, 0x74, 0x61, 0x74, 0xFF, 0xFF, 0x11] 4 = some ([0x73, 0x74, 0x61, 0x74, 0xFF, 0xFF], [0x11]) := by
  decide

theorem witness_SendingThroughBlockIsFrameEncode : 4 ≤ ([0x73, 0x74, 0x61, 0x74] : Bytes).length := by decide

theorem witness_CheckingThroughBlockIsFrameDecode : 2 ≤ ([0xFF, 0xFF] : Bytes).length := by decide

theorem witness_FramingRoundTrip :
    ([0x6D, 0x6F, 0x76, 0x65] : Bytes).length = 4 ∧ ([0x6D, 0x6F, 0x76, 0x65] : Bytes).head? ≠ some 0 ∧
    isSentinel [0x6D, 0x6F, 0x76, 0x65] = false := by decide

/-- V10 rows 6 and 10: the checksums agree, and differ, for an empty payload. -/
theorem witness_CheckingWithBlockReportsBothValues :
    crc16 (([0x73, 0x74, 0x61, 0x74] : Bytes).drop 4) = 0xFF#8 ++ 0xFF#8 ∧
    crc16 (([0x65, 0x72, 0x72, 0x63] : Bytes).drop 4) ≠ 0#8 ++ 0#8 := by decide

/-- First and last byte of payload and checksum, for an empty payload and one of two bytes. -/
theorem witness_FlippedBitRaisesMismatch :
    ([0x6D, 0x6F, 0x76, 0x65] : Bytes).length = 4 ∧ ([0x6D, 0x6F, 0x76, 0x65] : Bytes).head? ≠ some 0 ∧
    1 < ([] : Bytes).length + 2 ∧ 0 < ([0x10, 0x27] : Bytes).length + 2 ∧ 3 < ([0x10, 0x27] : Bytes).length + 2 := by decide

end Sys2Proof.Tests
end

namespace Sys2Proof.Machine

/-! # Scope of the block (00_scope.md): every transaction is answered, sequences run, the units are apart -/

/-! ## The checked writes as operations (R104, R105, R107, R137, R139) -/

theorem exec_wrCrcCtrl (v : Word) (s : State) :
    exec (.wrCrcCtrl v) s =
      checkedWrite (reservedAbove1 v) (fun s => if fieldINIT v then s.setCrcAcc Params.crcSeed else s) s := rfl

theorem exec_wrCrcData (v : Word) (s : State) :
    exec (.wrCrcData v) s =
      checkedWrite (reservedAbove8 v) (fun s => s.setCrcAcc (crcStep s.crcAcc (fieldBYTE v))) s := rfl

theorem exec_wrCrcExpect (v : Word) (s : State) :
    exec (.wrCrcExpect v) s = checkedWrite (reservedAbove16 v) (fun s => s.setCrcExpect (fieldEXPECT v)) s := rfl

theorem exec_wrTgMode (v : Word) (s : State) :
    exec (.wrTgMode v) s = checkedWrite (reservedAbove1 v) (fun s => s.setTgUnb (fieldUNB v)) s := rfl

theorem exec_wrTgCtrl (v : Word) (s : State) :
    exec (.wrTgCtrl v) s = checkedWrite (reservedAbove2 v || v == 0x3) (tgCommand v) s := rfl

/-! ## Every operation is answered (R8, R190) -/

/-- `o` is an answer to a transaction issued in `s`: a next state with a response, the time base and the acts to come as
they were, and an error response with a code of R191 only over an unchanged block. -/
def IsAnswer (s : State) (o : Host.Outcome State Fault Refusal) : Prop :=
  ∃ (s' : State) (r : Response), o = .next s' ∧ s'.response = some r ∧ s'.now = s.now ∧ s'.inputs = s.inputs ∧
    (r.err = true → s' = { s with response := some r } ∧ 1 ≤ r.rdata ∧ r.rdata ≤ 6)

theorem code_mem_range (e : ErrCause) : 1 ≤ e.code ∧ e.code ≤ 6 := by
  cases e <;> decide

theorem isAnswer_raise (e : ErrCause) (s : State) : IsAnswer s (raise e s) :=
  ⟨_, _, rfl, rfl, rfl, rfl, fun _ => ⟨rfl, code_mem_range e⟩⟩

theorem isAnswer_respond (v : Word) {s u : State} (hnow : u.now = s.now) (hinputs : u.inputs = s.inputs) :
    IsAnswer s (respond v u) :=
  ⟨_, _, rfl, rfl, hnow, hinputs, nofun⟩

theorem isAnswer_checkedWrite (illegal : Bool) {effect : State → State} {s : State}
    (hnow : (effect s).now = s.now) (hinputs : (effect s).inputs = s.inputs) :
    IsAnswer s (checkedWrite illegal effect s) := by
  cases illegal with
  | true => exact isAnswer_raise .value s
  | false => exact isAnswer_respond 0 hnow hinputs

@[simp] theorem tgCommand_now (v : Word) (s : State) : (tgCommand v s).now = s.now := by
  obtain ⟨-, h⟩ | ⟨-, h⟩ | ⟨-, -, h⟩ := tgCommand_cases v s <;> simp [h]

@[simp] theorem tgCommand_inputs (v : Word) (s : State) : (tgCommand v s).inputs = s.inputs := by
  obtain ⟨-, h⟩ | ⟨-, h⟩ | ⟨-, -, h⟩ := tgCommand_cases v s <;> simp [h]

theorem isAnswer_execRdTgRemaining (s : State) : IsAnswer s (execRdTgRemaining s) := by
  unfold execRdTgRemaining
  split
  · exact isAnswer_raise .notStarted s
  · split <;> exact isAnswer_respond _ rfl rfl

theorem isAnswer_exec (i : Instr) (s : State) : IsAnswer s (exec i s) := by
  cases i with
  | wrCrcCtrl v =>
    rw [exec_wrCrcCtrl]
    refine isAnswer_checkedWrite _ ?_ ?_ <;> split <;> rfl
  | wrCrcData v => rw [exec_wrCrcData]; exact isAnswer_checkedWrite _ rfl rfl
  | wrCrcExpect v => rw [exec_wrCrcExpect]; exact isAnswer_checkedWrite _ rfl rfl
  | wrTgMode v => rw [exec_wrTgMode]; exact isAnswer_checkedWrite _ rfl rfl
  | wrTgCtrl v => rw [exec_wrTgCtrl]; exact isAnswer_checkedWrite _ (tgCommand_now v s) (tgCommand_inputs v s)
  | rdTgRemaining => exact isAnswer_execRdTgRemaining s
  | wrTgBudget v => exact isAnswer_respond 0 rfl rfl
  | rdCrcAcc | rdCrcExpect | rdCrcStatus | rdTgBudget | rdTgMode | rdTgStatus => exact isAnswer_respond _ rfl rfl

/-- Settles O6: a refused word is answered by `raise`, an accepted one by its operation. -/
theorem everyTransactionIsAnswered : Obligations.EveryTransactionIsAnswered := by
  intro t s
  cases h : decode t with
  | ok i => rw [transact_ok s h]; exact isAnswer_exec i s
  | error e => rw [transact_error s h]; exact isAnswer_raise e s

/-! ## A sequence of acts (R36, R58) -/

theorem tickNow_next {s : State} (h : s.now.toNat + 1 < 2 ^ 64) : tickNow s = .next (s.setNow (s.now + 1)) := by
  refine if_neg fun htop => ?_
  rw [htop, BitVec.toNat_allOnes] at h
  omega

theorem tickCount_cons (e : Event) (es : List Event) : tickCount (e :: es) = tickCount [e] + tickCount es := by
  simp only [tickCount, List.count_cons, List.count_nil]
  omega

/-- An act that does not wrap the time base is performed, advances `NOW` by its own ticks (one or none), and takes no
act off `inputs`. -/
theorem applyEvent_next {e : Event} {s : State} (h : s.now.toNat + tickCount [e] < 2 ^ 64) :
    ∃ t, applyEvent e s = .next t ∧ t.now.toNat = s.now.toNat + tickCount [e] ∧ t.inputs = s.inputs := by
  cases e with
  | transaction w =>
    obtain ⟨t, r, ht, -, hnow, hinputs, -⟩ := everyTransactionIsAnswered w s
    exact ⟨t, ht, congrArg BitVec.toNat hnow, hinputs⟩
  | tick =>
    have ht := tickNow_next h
    obtain ⟨-, -, hnow⟩ := tickNow_cases ht
    exact ⟨_, ht, hnow, rfl⟩
  | reset => exact ⟨_, rfl, rfl, rfl⟩

/-- Settles O13, by induction on the sequence: each act advances `NOW` by its own ticks, so it leaves room for the ticks
still to come. -/
theorem sequenceRunsAndCountsTicks : Obligations.SequenceRunsAndCountsTicks := by
  intro es
  induction es with
  | nil => exact fun s _ => ⟨s, rfl, rfl, rfl⟩
  | cons e es ih =>
    intro s h
    rw [tickCount_cons] at h ⊢
    obtain ⟨u, hu, hnow, hinputs⟩ := applyEvent_next (e := e) (s := s) (by omega)
    obtain ⟨t, ht, hnow', hinputs'⟩ := ih u (by omega)
    exact ⟨t, (applyEvents_cons_next es hu).trans ht, by omega, hinputs'.trans hinputs⟩

/-! ## The two units are apart (R2) -/

/-- Two states have the same CRC unit (`true`) or the same TG unit (`false`). -/
def sameUnit : Bool → State → State → Prop
  | true => sameCrcUnit
  | false => sameTgUnit

theorem sameUnit_refl (unit : Bool) (s : State) : sameUnit unit s s := by
  cases unit with
  | true => exact ⟨rfl, rfl⟩
  | false => exact ⟨rfl, rfl, rfl, rfl, rfl⟩

/-- The last response belongs to neither unit. -/
theorem sameUnit_setResponse {unit : Bool} {s t : State} (q r : Response) (h : sameUnit unit s t) :
    sameUnit unit (s.setResponse q) (t.setResponse r) := by
  cases unit <;> exact h

theorem sameUnit_setResponse_left {unit : Bool} {s t : State} (r : Response) (h : sameUnit unit s t) :
    sameUnit unit (s.setResponse r) t := by
  cases unit <;> exact h

/-- `o` and `p` are the outcomes of one operation of `unit` in `s` and in another state: the same response, `unit` the
same in both next states, and the other unit in the first as it was in `s`. -/
def AnsweredAlike (unit : Bool) (s : State) (o p : Host.Outcome State Fault Refusal) : Prop :=
  ∃ s' t' : State, o = .next s' ∧ p = .next t' ∧ sameUnit unit s' t' ∧ s'.response = t'.response ∧
    sameUnit (!unit) s' s

section
variable {unit : Bool} {s t : State}

theorem answeredAlike_raise (e : ErrCause) (h : sameUnit unit s t) : AnsweredAlike unit s (raise e s) (raise e t) :=
  ⟨_, _, rfl, rfl, sameUnit_setResponse _ _ h, rfl, sameUnit_setResponse_left _ (sameUnit_refl _ s)⟩

theorem answeredAlike_respond {v w : Word} {s' t' : State} (hv : v = w) (hown : sameUnit unit s' t')
    (hother : sameUnit (!unit) s' s) : AnsweredAlike unit s (respond v s') (respond w t') := by
  subst hv
  exact ⟨_, _, rfl, rfl, sameUnit_setResponse _ _ hown, rfl, sameUnit_setResponse_left _ hother⟩

/-- A read: the answer is a function of the unit's state. -/
theorem answeredAlike_read {v w : Word} (h : sameUnit unit s t) (hv : v = w) :
    AnsweredAlike unit s (respond v s) (respond w t) :=
  answeredAlike_respond hv h (sameUnit_refl _ s)

theorem answeredAlike_checkedWrite (illegal : Bool) {effect : State → State} (h : sameUnit unit s t)
    (hown : sameUnit unit (effect s) (effect t)) (hother : sameUnit (!unit) (effect s) s) :
    AnsweredAlike unit s (checkedWrite illegal effect s) (checkedWrite illegal effect t) := by
  cases illegal with
  | true => exact answeredAlike_raise .value h
  | false => exact answeredAlike_respond rfl hown hother

end

theorem matchBit_eq_of_sameCrcUnit {s t : State} (h : sameCrcUnit s t) : matchBit s = matchBit t := by
  obtain ⟨hacc, hexpect⟩ := h
  simp only [matchBit, hacc, hexpect]

theorem elapsed_eq_of_sameTgUnit {s t : State} (h : sameTgUnit s t) : s.elapsed = t.elapsed := by
  obtain ⟨-, -, -, hstart, hnow⟩ := h
  simp only [State.elapsed, hstart, hnow]

theorem tgStatusWord_eq_of_sameTgUnit {s t : State} (h : sameTgUnit s t) : tgStatusWord s = tgStatusWord t := by
  have helapsed := elapsed_eq_of_sameTgUnit h
  obtain ⟨hbudget, hunb, hstarted, -, -⟩ := h
  simp only [tgStatusWord, expiredBit, hbudget, hunb, hstarted, helapsed]

/-- A governor command acts on equal TG units equally, `START` included: `NOW` is the TG unit's. -/
theorem sameTgUnit_tgCommand (v : Word) {s t : State} (h : sameTgUnit s t) :
    sameTgUnit (tgCommand v s) (tgCommand v t) := by
  obtain ⟨hbudget, hunb, hstarted, hstart, hnow⟩ := h
  unfold tgCommand
  split
  · exact ⟨hbudget, hunb, rfl, hnow, hnow⟩
  · split
    · exact ⟨hbudget, hunb, rfl, hstart, hnow⟩
    · exact ⟨hbudget, hunb, hstarted, hstart, hnow⟩

theorem sameCrcUnit_tgCommand (v : Word) (s : State) : sameCrcUnit (tgCommand v s) s := by
  obtain ⟨-, h⟩ | ⟨-, h⟩ | ⟨-, -, h⟩ := tgCommand_cases v s <;> rw [h] <;> exact ⟨rfl, rfl⟩

theorem answeredAlike_execRdTgRemaining {s t : State} (h : sameTgUnit s t) :
    AnsweredAlike false s (execRdTgRemaining s) (execRdTgRemaining t) := by
  have helapsed := elapsed_eq_of_sameTgUnit h
  obtain ⟨hbudget, hunb, hstarted, -, -⟩ := id h
  unfold execRdTgRemaining
  rw [← hbudget, ← hunb, ← hstarted, ← helapsed]
  split
  · exact answeredAlike_raise .notStarted h
  · split <;> exact answeredAlike_read h rfl

theorem answeredAlike_exec_crc {i : Instr} {s t : State} (hi : isCrcOperation i = true) (h : sameCrcUnit s t) :
    AnsweredAlike true s (exec i s) (exec i t) := by
  have hother : sameTgUnit s s := sameUnit_refl false s
  obtain ⟨hacc, hexpect⟩ := id h
  cases i with
  | wrCrcCtrl v =>
    simp only [exec_wrCrcCtrl]
    refine answeredAlike_checkedWrite _ h ?_ ?_ <;> split
    · exact ⟨rfl, hexpect⟩
    · exact h
    · exact hother
    · exact hother
  | wrCrcData v =>
    simp only [exec_wrCrcData]
    exact answeredAlike_checkedWrite _ h ⟨congrArg (crcStep · _) hacc, hexpect⟩ hother
  | wrCrcExpect v => simp only [exec_wrCrcExpect]; exact answeredAlike_checkedWrite _ h ⟨hacc, rfl⟩ hother
  | rdCrcAcc => exact answeredAlike_read h (congrArg zextChecksum hacc)
  | rdCrcExpect => exact answeredAlike_read h (congrArg zextChecksum hexpect)
  | rdCrcStatus => exact answeredAlike_read h (congrArg zextBit (matchBit_eq_of_sameCrcUnit h))
  | wrTgBudget | rdTgBudget | wrTgMode | rdTgMode | wrTgCtrl | rdTgStatus | rdTgRemaining => cases hi

theorem answeredAlike_exec_tg {i : Instr} {s t : State} (hi : isCrcOperation i = false) (h : sameTgUnit s t) :
    AnsweredAlike false s (exec i s) (exec i t) := by
  have hother : sameCrcUnit s s := sameUnit_refl true s
  obtain ⟨hbudget, hunb, htime⟩ := id h
  cases i with
  | wrTgBudget v => exact answeredAlike_respond rfl ⟨rfl, hunb, htime⟩ hother
  | wrTgMode v => simp only [exec_wrTgMode]; exact answeredAlike_checkedWrite _ h ⟨hbudget, rfl, htime⟩ hother
  | wrTgCtrl v =>
    simp only [exec_wrTgCtrl]
    exact answeredAlike_checkedWrite _ h (sameTgUnit_tgCommand v h) (sameCrcUnit_tgCommand v s)
  | rdTgBudget => exact answeredAlike_read h hbudget
  | rdTgMode => exact answeredAlike_read h (congrArg zextBit hunb)
  | rdTgStatus => exact answeredAlike_read h (tgStatusWord_eq_of_sameTgUnit h)
  | rdTgRemaining => exact answeredAlike_execRdTgRemaining h
  | wrCrcCtrl | wrCrcData | rdCrcAcc | wrCrcExpect | rdCrcExpect | rdCrcStatus => cases hi

/-- Settles O15: in each unit every operation's effect and answer are functions of that unit's state alone. -/
theorem unitsShareNoState : Obligations.UnitsShareNoState :=
  ⟨fun _ _ _ => answeredAlike_exec_crc, fun _ _ _ => answeredAlike_exec_tg⟩

/-! ## One step of the machine (R7, R8, R72) -/

/-- Settles O9: the step takes the act off `inputs`, and the transaction runs or refuses what the word decodes to. -/
theorem stepRunsDecodedTransaction : Obligations.StepRunsDecodedTransaction := by
  intro s t es hs
  have hstep : step s = transact t (s.setInputs es) := step_cons hs
  exact ⟨fun i hi => hstep.trans (transact_ok _ hi), fun e he => hstep.trans (transact_error _ he)⟩

end Sys2Proof.Machine

namespace Sys2Proof.Machine

/-! # State and reset (10_state.md): the start is never after the time base, a tick adds 1, the values right after
reset -/

/-! ## What an operation leaves of the block (R2, R55) -/

/-- A read changes nothing but the response (R55). -/
theorem exec_read_eq_setResponse {i : Instr} (hi : isRead i = true) (s : State) :
    ∃ r, exec i s = .next (s.setResponse r) := by
  cases i with
  | rdTgRemaining =>
    change ∃ r, execRdTgRemaining s = _
    unfold execRdTgRemaining
    split
    · exact ⟨_, rfl⟩
    · split <;> exact ⟨_, rfl⟩
  | rdCrcAcc | rdCrcExpect | rdCrcStatus | rdTgBudget | rdTgMode | rdTgStatus => exact ⟨_, rfl⟩
  | wrCrcCtrl | wrCrcData | wrCrcExpect | wrTgBudget | wrTgMode | wrTgCtrl => cases hi

theorem next_of_exec_read {i : Instr} {s t : State} (hi : isRead i = true) (h : exec i s = .next t) :
    ∃ r, t = s.setResponse r := by
  obtain ⟨r, hr⟩ := exec_read_eq_setResponse hi s
  cases hr.symm.trans h
  exact ⟨r, rfl⟩

/-- An operation of the CRC unit leaves the TG unit as it was (R2). -/
theorem sameTgUnit_of_exec_crc {i : Instr} {s t : State} (hi : isCrcOperation i = true) (h : exec i s = .next t) :
    sameTgUnit t s := by
  obtain ⟨s', -, hs', -, -, -, hsame⟩ := unitsShareNoState.1 i s s hi ⟨rfl, rfl⟩
  cases hs'.symm.trans h
  exact hsame

/-! ## A started governor started no later than now (R38) -/

theorem inv_setResponse {s : State} (r : Response) (hs : s.Inv) : (s.setResponse r).Inv := hs

theorem inv_of_sameTgUnit {s t : State} (hs : s.Inv) (h : sameTgUnit t s) : t.Inv := by
  obtain ⟨-, -, hstarted, hstart, hnow⟩ := h
  rw [State.Inv, hstarted, hstart, hnow]
  exact hs

/-- A start records the present `NOW`, and without a started governor nothing is claimed. -/
theorem inv_tgCommand {s : State} (v : Word) (hs : s.Inv) : (tgCommand v s).Inv := by
  obtain ⟨-, h⟩ | ⟨-, h⟩ | ⟨-, -, h⟩ := tgCommand_cases v s <;> rw [h]
  · exact fun _ => le_rfl
  · exact nofun
  · exact hs

theorem inv_of_checkedWrite {illegal : Bool} {effect : State → State} {s t : State} (hs : s.Inv)
    (heffect : (effect s).Inv) (h : checkedWrite illegal effect s = .next t) : t.Inv := by
  obtain ⟨-, rfl⟩ | ⟨-, rfl⟩ := checkedWrite_cases h
  · exact inv_setResponse _ hs
  · exact inv_setResponse _ heffect

theorem inv_of_exec {i : Instr} {s t : State} (hs : s.Inv) (h : exec i s = .next t) : t.Inv := by
  cases i with
  | wrTgCtrl v => exact inv_of_checkedWrite hs (inv_tgCommand v hs) h
  | wrTgMode v =>
    rw [exec_wrTgMode] at h
    exact inv_of_checkedWrite hs hs h
  | wrTgBudget v => cases h; exact hs
  | rdTgBudget | rdTgMode | rdTgStatus | rdTgRemaining =>
    obtain ⟨r, rfl⟩ := next_of_exec_read rfl h
    exact inv_setResponse r hs
  | wrCrcCtrl | wrCrcData | rdCrcAcc | wrCrcExpect | rdCrcExpect | rdCrcStatus =>
    exact inv_of_sameTgUnit hs (sameTgUnit_of_exec_crc rfl h)

theorem inv_of_transact {w : TransactionWord} {s t : State} (hs : s.Inv) (h : transact w s = .next t) : t.Inv := by
  cases hw : decode w with
  | ok i => exact inv_of_exec hs ((transact_ok s hw).symm.trans h)
  | error e =>
    cases (transact_error s hw).symm.trans h
    exact inv_setResponse _ hs

/-- A tick that answers a next state does not wrap, so `NOW` only grows. -/
theorem inv_of_tickNow {s t : State} (hs : s.Inv) (h : tickNow s = .next t) : t.Inv := by
  obtain ⟨-, rfl, hnow⟩ := tickNow_cases h
  intro hstarted
  rw [hnow]
  exact (hs hstarted).trans (Nat.le_succ _)

theorem inv_of_applyEvent {e : Event} {s t : State} (hs : s.Inv) (h : applyEvent e s = .next t) : t.Inv := by
  cases e with
  | transaction w => exact inv_of_transact hs h
  | tick => exact inv_of_tickNow hs h
  | reset => cases h; exact nofun

/-- Settles O18: an idle step changes nothing, and every act of every agent keeps the invariant. -/
theorem everyStepKeepsStartBeforeNow : Obligations.EveryStepKeepsStartBeforeNow := by
  intro s s' hs h
  cases hin : s.inputs with
  | nil =>
    cases (step_nil hin).symm.trans h
    exact hs
  | cons e es =>
    have hs' : (s.setInputs es).Inv := hs
    exact inv_of_applyEvent hs' ((step_cons hin).symm.trans h)

/-! ## A tick (R36) -/

theorem tickNow_top {s : State} (h : s.now.toNat = 2 ^ 64 - 1) : tickNow s = .fault .nowAtTop :=
  if_pos (BitVec.eq_of_toNat_eq (h.trans BitVec.toNat_allOnes.symm))

/-- Settles O10: the step is the time base's tick, below the top and at it. -/
theorem tickAdvancesTimeBaseByOne : Obligations.TickAdvancesTimeBaseByOne := by
  intro s es hs
  have hstep : step s = tickNow (s.setInputs es) := step_cons hs
  refine ⟨fun hlt => ?_, fun htop => hstep.trans (tickNow_top htop)⟩
  have htick := tickNow_next (s := s.setInputs es) (by rw [State.setInputs_now]; omega)
  obtain ⟨-, -, hnow⟩ := tickNow_cases htick
  exact ⟨_, hnow, hstep.trans htick⟩

/-! ## The state right after reset (R39) -/

theorem expiredBit_of_not_started {s : State} (h : s.tgStarted = false) : expiredBit s = false := by
  rw [expiredBit, h, Bool.false_and]

theorem exec_rdTgRemaining_of_not_started {s : State} (h : s.tgStarted = false) :
    exec .rdTgRemaining s = raise .notStarted s := if_pos (by rw [h]; rfl)

theorem exec_rdCrcStatus (s : State) : exec .rdCrcStatus s = respond (zextBit (matchBit s)) s := rfl

theorem exec_rdTgStatus (s : State) : exec .rdTgStatus s = respond (tgStatusWord s) s := rfl

theorem matchBit_launch (n : Time) : matchBit (State.launch n) = false := rfl

theorem tgStatusWord_launch (n : Time) : tgStatusWord (State.launch n) = 0 := by
  rw [tgStatusWord, expiredBit_of_not_started (State.launch_tgStarted n), State.launch_tgUnb, State.launch_tgStarted]
  rfl

/-- Settles O16: `MATCH` is 0 because `0xFFFF` is not `0x0000`, and no governor is started, so none has expired and none
has a remaining time. -/
theorem launchStateHoldsResetValues : Obligations.LaunchStateHoldsResetValues := by
  refine ⟨⟨Config.nowAtReset, rfl⟩, fun n => ?_⟩
  have hstatus : exec .rdCrcStatus (State.launch n) = respond (zextBit false) (State.launch n) := by
    rw [exec_rdCrcStatus, matchBit_launch]
  have htg : exec .rdTgStatus (State.launch n) = respond 0 (State.launch n) := by
    rw [exec_rdTgStatus, tgStatusWord_launch]
  have hremaining := exec_rdTgRemaining_of_not_started (State.launch_tgStarted n)
  exact ⟨rfl, rfl, rfl, rfl, rfl, rfl, rfl, rfl, hstatus, htg, hremaining⟩

/-- Right after reset no governor is started. -/
theorem inv_launch (n : Time) : (State.launch n).Inv := nofun

/-- Settles O17: the reset state is a launch state, and in a launch state no governor is started. -/
theorem launchStateMeetsInvariant : Obligations.LaunchStateMeetsInvariant :=
  ⟨inv_launch Config.nowAtReset, inv_launch⟩

end Sys2Proof.Machine

namespace Sys2Proof.Machine

/-! # Ordering of the agents' acts and repeated accesses (20_memory.md): a run is the fold of the acts, reads have no
side effect, which writes are idempotent -/

/-! ## An act neither reads nor changes the acts to come (R58) -/

/-- The outcome `o`, then `k` from its next state; a stop stays the same stop. -/
def outcomeBind {σ φ ρ : Type} (o : Host.Outcome σ φ ρ) (k : σ → Host.Outcome σ φ ρ) : Host.Outcome σ φ ρ :=
  match o with
  | .next s => k s
  | .fault f => .fault f
  | .refused r => .refused r

theorem coreRun_succ (M : Host.Core) (n : Nat) (s : M.State) : M.run (n + 1) s = outcomeBind (M.step s) (M.run n) := by
  rw [Host.Core.run]
  cases M.step s <;> rfl

theorem applyEvents_cons (e : Event) (es : List Event) (s : State) :
    applyEvents (e :: es) s = outcomeBind (applyEvent e s) (applyEvents es) := by
  rw [applyEvents]
  cases applyEvent e s <;> rfl

/-- The outcome `o` with `es` as the acts still to come in its next state, if it has one. -/
def outcomeWithInputs (es : List Event) (o : Host.Outcome State Fault Refusal) : Host.Outcome State Fault Refusal :=
  outcomeBind o fun s => .next (s.setInputs es)

theorem outcomeBind_outcomeWithInputs (es : List Event) (o : Host.Outcome State Fault Refusal)
    (k : State → Host.Outcome State Fault Refusal) :
    outcomeBind (outcomeWithInputs es o) k = outcomeBind o fun s => k (s.setInputs es) := by
  cases o <;> rfl

section
variable (es : List Event) (s : State)

theorem respond_setInputs (v : Word) : respond v (s.setInputs es) = outcomeWithInputs es (respond v s) := rfl

theorem raise_setInputs (e : ErrCause) : raise e (s.setInputs es) = outcomeWithInputs es (raise e s) := rfl

variable {es s} in
theorem checkedWrite_setInputs (illegal : Bool) {effect : State → State}
    (h : effect (s.setInputs es) = (effect s).setInputs es) :
    checkedWrite illegal effect (s.setInputs es) = outcomeWithInputs es (checkedWrite illegal effect s) := by
  cases illegal with
  | true => exact raise_setInputs es s .value
  | false => exact (congrArg (respond 0) h).trans (respond_setInputs es (effect s) 0)

theorem tgCommand_setInputs (v : Word) : tgCommand v (s.setInputs es) = (tgCommand v s).setInputs es := by
  unfold tgCommand
  split
  · rfl
  · split <;> rfl

theorem execRdTgRemaining_setInputs :
    execRdTgRemaining (s.setInputs es) = outcomeWithInputs es (execRdTgRemaining s) := by
  unfold execRdTgRemaining
  rw [State.setInputs_tgStarted, State.setInputs_tgUnb]
  split
  · exact raise_setInputs es s .notStarted
  · split <;> exact respond_setInputs es s _

theorem exec_setInputs (i : Instr) : exec i (s.setInputs es) = outcomeWithInputs es (exec i s) := by
  cases i with
  | wrCrcCtrl v =>
    simp only [exec_wrCrcCtrl]
    refine checkedWrite_setInputs _ ?_
    split <;> rfl
  | wrCrcData v => simp only [exec_wrCrcData]; exact checkedWrite_setInputs _ rfl
  | wrCrcExpect v => simp only [exec_wrCrcExpect]; exact checkedWrite_setInputs _ rfl
  | wrTgMode v => simp only [exec_wrTgMode]; exact checkedWrite_setInputs _ rfl
  | wrTgCtrl v => simp only [exec_wrTgCtrl]; exact checkedWrite_setInputs _ (tgCommand_setInputs es s v)
  | rdTgRemaining => exact execRdTgRemaining_setInputs es s
  | wrTgBudget v => exact respond_setInputs es (s.setTgBudget v) 0
  | rdCrcAcc | rdCrcExpect | rdCrcStatus | rdTgBudget | rdTgMode | rdTgStatus => exact respond_setInputs es s _

theorem transact_setInputs (t : TransactionWord) :
    transact t (s.setInputs es) = outcomeWithInputs es (transact t s) := by
  cases h : decode t with
  | ok i => rw [transact_ok _ h, transact_ok _ h, exec_setInputs]
  | error e => rw [transact_error _ h, transact_error _ h]; rfl

theorem tickNow_setInputs : tickNow (s.setInputs es) = outcomeWithInputs es (tickNow s) := by
  unfold tickNow
  rw [State.setInputs_now]
  split <;> rfl

theorem applyEvent_setInputs (e : Event) :
    applyEvent e (s.setInputs es) = outcomeWithInputs es (applyEvent e s) := by
  cases e with
  | transaction t => exact transact_setInputs es s t
  | tick => exact tickNow_setInputs es s
  | reset => rfl

end

/-- A step whose next act is `e`, then `k`, in terms of what `e` does in `s`. -/
theorem outcomeBind_step_setInputs_cons (e : Event) (es : List Event) (s : State)
    (k : State → Host.Outcome State Fault Refusal) :
    outcomeBind (step (s.setInputs (e :: es))) k = outcomeBind (applyEvent e s) fun u => k (u.setInputs es) := by
  have hstep : step (s.setInputs (e :: es)) = applyEvent e (s.setInputs es) := step_cons rfl
  rw [hstep, applyEvent_setInputs, outcomeBind_outcomeWithInputs]

theorem applyEvents_cons_setInputs (e : Event) (es rest : List Event) (s : State) :
    applyEvents (e :: es) (s.setInputs rest) =
      outcomeBind (applyEvent e s) fun u => applyEvents es (u.setInputs rest) := by
  rw [applyEvents_cons, applyEvent_setInputs, outcomeBind_outcomeWithInputs]

theorem coreRun_setInputs_append (es rest : List Event) (s : State) :
    Sys2Proof.core.run es.length (s.setInputs (es ++ rest)) = applyEvents es (s.setInputs rest) := by
  induction es generalizing s with
  | nil => rfl
  | cons e es ih =>
    have hrun := coreRun_succ Sys2Proof.core es.length (s.setInputs (e :: (es ++ rest)))
    have hstep := outcomeBind_step_setInputs_cons e (es ++ rest) s (Sys2Proof.core.run es.length)
    have hrest := congrArg (outcomeBind (applyEvent e s)) (funext ih)
    exact hrun.trans (hstep.trans (hrest.trans (applyEvents_cons_setInputs e es rest s).symm))

/-- Settles O12: each step takes one act off `inputs`, and an act has the same outcome whatever acts are still to
come. -/
theorem runIsFoldOfEvents : Obligations.RunIsFoldOfEvents :=
  coreRun_setInputs_append

/-! ## Accesses done twice (R55) -/

/-- A checked write whose effect changes nothing in a state that already has it, whatever the response, is idempotent. -/
theorem checkedWrite_idempotent {illegal : Bool} {effect : State → State} {s s' : State}
    (heffect : ∀ r, effect ((effect s).setResponse r) = (effect s).setResponse r)
    (h : checkedWrite illegal effect s = .next s') : checkedWrite illegal effect s' = .next s' := by
  obtain ⟨rfl, rfl⟩ | ⟨rfl, rfl⟩ := checkedWrite_cases h
  · rfl
  · rw [checkedWrite_legal, heffect]
    rfl

/-- The plain stores, `INIT` and `DISCARD`: done twice is done once. -/
theorem exec_idempotent {v : Word} {i : Instr} {s s' : State}
    (hi : i ∈ [Instr.wrCrcExpect v, .wrTgBudget v, .wrTgMode v, .wrCrcCtrl 0x1, .wrTgCtrl 0x2])
    (h : exec i s = .next s') : exec i s' = .next s' := by
  simp only [List.mem_cons, List.not_mem_nil, or_false] at hi
  obtain rfl | rfl | rfl | rfl | rfl := hi
  · rw [exec_wrCrcExpect] at h ⊢; exact checkedWrite_idempotent (fun _ => rfl) h
  · cases h; rfl
  · rw [exec_wrTgMode] at h ⊢; exact checkedWrite_idempotent (fun _ => rfl) h
  · rw [exec_wrCrcCtrl] at h ⊢; exact checkedWrite_idempotent (fun _ => rfl) h
  · rw [exec_wrTgCtrl] at h ⊢; exact checkedWrite_idempotent (fun _ => rfl) h

theorem exec_wrCrcData_zero (s : State) :
    exec (.wrCrcData 0x00) s =
      .next ((s.setCrcAcc (crcStep s.crcAcc 0x00)).setResponse { err := false, rdata := 0 }) := rfl

theorem crcStep_seed_zero : crcStep Params.crcSeed 0x00 = 0x40BF := by decide

theorem crcStep_40BF_zero : crcStep 0x40BF 0x00 = 0xB001 := by decide

/-- The byte 0x00 fed from the seed gives 0x40BF, and fed again 0xB001. -/
theorem exec_wrCrcData_not_idempotent :
    ∃ (v : Word) (s s' s'' : State),
      exec (.wrCrcData v) s = .next s' ∧ exec (.wrCrcData v) s' = .next s'' ∧ s''.crcAcc ≠ s'.crcAcc := by
  refine ⟨0x00, State.launch 0, _, _, exec_wrCrcData_zero _, exec_wrCrcData_zero _, ?_⟩
  simp only [State.setResponse_crcAcc, State.setCrcAcc_crcAcc, State.launch_crcAcc, crcStep_seed_zero,
    crcStep_40BF_zero]
  decide

theorem exec_wrTgCtrl_start (s : State) :
    exec (.wrTgCtrl 0x1) s = .next (s.startGovernor.setResponse { err := false, rdata := 0 }) := rfl

/-- A second `START` one tick after the first records the later `NOW`. -/
theorem exec_wrTgCtrl_start_after_tick {s s' s'' : State} (hstart : exec (.wrTgCtrl 0x1) s = .next s')
    (htick : tickNow s' = .next s'') :
    ∃ t : State, exec (.wrTgCtrl 0x1) s'' = .next t ∧ t.tgStart.toNat = s'.tgStart.toNat + 1 := by
  cases (exec_wrTgCtrl_start s).symm.trans hstart
  obtain ⟨-, -, hnow⟩ := tickNow_cases htick
  exact ⟨_, exec_wrTgCtrl_start s'', hnow⟩

/-- Settles O14, a lemma for each kind of access: reads, idempotent writes, a byte fed twice, `START` after a tick, and
a refused word, which is answered by the error response alone. -/
theorem sideEffectsOfReadsAndRepeatedWrites : Obligations.SideEffectsOfReadsAndRepeatedWrites :=
  ⟨fun _ s hi => exec_read_eq_setResponse hi s, fun _ _ _ _ => exec_idempotent, exec_wrCrcData_not_idempotent,
    fun _ _ _ => exec_wrTgCtrl_start_after_tick, fun _ _ s h => ⟨_, transact_error s h⟩⟩

end Sys2Proof.Machine

namespace Sys2Proof

/-! # Encoding (30_encoding.md): the decoder and the encoder agree, and which header bytes select an operation -/

open Laws.EncodedFields (accessHeader accessHeader_fields)

/-! ## The tests of the decoder in order (R72) -/

section
variable {t : TransactionWord}

theorem decode_of_rsv (hrsv : fieldRSV t = true) : decode t = .error .format := if_pos hrsv

theorem decode_of_rsv_eq_false (hrsv : fieldRSV t = false) :
    decode t = if (fieldADDR t).extractLsb' 0 2 != 0 then .error .align
      else (Reg.ofOffset (fieldADDR t)).elim (.error .addr) fun r => decodeAccess (fieldWE t) r (fieldWDATA t) := by
  unfold decode
  rw [hrsv, if_neg Bool.false_ne_true]
  cases Reg.ofOffset (fieldADDR t) <;> rfl

theorem decode_of_misaligned (hrsv : fieldRSV t = false) (haddr : (fieldADDR t).extractLsb' 0 2 ≠ 0) :
    decode t = .error .align := by
  rw [decode_of_rsv_eq_false hrsv, if_pos (bne_iff_ne.mpr haddr)]

theorem decode_of_reserved (hrsv : fieldRSV t = false) (halign : (fieldADDR t).extractLsb' 0 2 = 0)
    (haddr : Reg.ofOffset (fieldADDR t) = none) : decode t = .error .addr := by
  rw [decode_of_rsv_eq_false hrsv, halign, haddr]
  rfl

theorem decode_of_offset {r : Reg} (hrsv : fieldRSV t = false) (haddr : fieldADDR t = r.offset) :
    decode t = decodeAccess (fieldWE t) r (fieldWDATA t) := by
  rw [decode_of_rsv_eq_false hrsv, haddr, offset_aligned, ofOffset_offset]
  rfl

end

theorem eq_offset_of_ofOffset {a : Offset} {r : Reg} (h : Reg.ofOffset a = some r) : a = r.offset := by
  unfold Reg.ofOffset at h
  have hoffset := List.find?_some h
  exact (beq_iff_eq.mp hoffset).symm

/-! ## The header byte of an access -/

theorem decode_accessHeader (we : Bool) (r : Reg) (d : Word) :
    decode (accessHeader we r.offset ++ d) = decodeAccess we r d := by
  obtain ⟨hwe, hrsv, haddr⟩ := accessHeader_fields we r
  rw [← fieldWE_header_data _ d] at hwe
  rw [← fieldRSV_header_data _ d] at hrsv
  rw [← fieldADDR_header_data _ d] at haddr
  rw [decode_of_offset hrsv haddr, hwe, fieldWDATA_header_data]

theorem eq_accessHeader (h : Byte) (hrsv : h.getLsbD 6 = false) :
    h = accessHeader (h.getLsbD 7) (h.extractLsb' 0 6) := by
  revert h
  decide

/-- A header byte is refused by one of the first three tests of R72 whatever `WDATA` is, or accesses a register. -/
theorem header_refused_or_access (h : Byte) :
    (∃ e ∈ [ErrCause.format, .align, .addr], ∀ d : Word, decode (h ++ d) = .error e) ∨
      ∃ (we : Bool) (r : Reg), h = accessHeader we r.offset := by
  cases hrsv : h.getLsbD 6 with
  | true => exact .inl ⟨.format, by simp, fun d => decode_of_rsv ((fieldRSV_header_data h d).trans hrsv)⟩
  | false =>
    have hrsv' (d : Word) := (fieldRSV_header_data h d).trans hrsv
    by_cases halign : (h.extractLsb' 0 6).extractLsb' 0 2 = 0
    · cases haddr : Reg.ofOffset (h.extractLsb' 0 6) with
      | none =>
        refine .inl ⟨.addr, by simp, fun d => decode_of_reserved (hrsv' d) ?_ ?_⟩ <;> rwa [fieldADDR_header_data]
      | some r =>
        exact .inr ⟨h.getLsbD 7, r, (eq_accessHeader h hrsv).trans (by rw [eq_offset_of_ofOffset haddr])⟩
    · exact .inl ⟨.align, by simp, fun d => decode_of_misaligned (hrsv' d) (by rwa [fieldADDR_header_data])⟩

/-! ## The operation of an access (R75) and its legal operands (R25 to R32) -/

theorem writeInstr_eq_some_iff {r : Reg} {v : Word} {i : Instr} :
    writeInstr r v = some i ↔ i.reg = r ∧ i.operand = some v := by
  constructor
  · intro h
    cases r <;> cases h <;> exact ⟨rfl, rfl⟩
  · rintro ⟨rfl, h⟩
    cases i <;> cases h <;> rfl

theorem readInstr_eq_some_iff {r : Reg} {i : Instr} : readInstr r = some i ↔ i.reg = r ∧ i.operand = none := by
  constructor
  · intro h
    cases r <;> cases h <;> exact ⟨rfl, rfl⟩
  · rintro ⟨rfl, h⟩
    cases i <;> cases h <;> rfl

theorem wellFormed_of_operand_eq_none {i : Instr} (h : i.operand = none) : i.wellFormed = true := by
  cases i <;> cases h <;> rfl

theorem decide_succ_le_eq_not (n m : Nat) : decide (m + 1 ≤ n) = !decide (n ≤ m) := by
  rw [← decide_not, decide_eq_decide, Nat.not_le, Nat.succ_le_iff]

/-- Test 5 of R72 refuses exactly the operands that are not legal write values. -/
theorem illegalValue_eq_not_wellFormed {i : Instr} {v : Word} (h : i.operand = some v) :
    illegalValue i.reg v = !i.wellFormed := by
  cases i with
  | wrCrcCtrl => cases h; exact (illegalValue_crcCtrl v).trans (decide_succ_le_eq_not _ 1)
  | wrCrcData => cases h; exact (illegalValue_crcData v).trans (decide_succ_le_eq_not _ 255)
  | wrCrcExpect => cases h; exact (illegalValue_crcExpect v).trans (decide_succ_le_eq_not _ 65535)
  | wrTgBudget => cases h; exact illegalValue_tgBudget v
  | wrTgMode => cases h; exact (illegalValue_tgMode v).trans (decide_succ_le_eq_not _ 1)
  | wrTgCtrl => cases h; exact (illegalValue_tgCtrl v).trans (decide_succ_le_eq_not _ 2)
  | rdCrcAcc | rdCrcExpect | rdCrcStatus | rdTgBudget | rdTgMode | rdTgStatus | rdTgRemaining => cases h

theorem decodeAccess_write {i : Instr} {v : Word} (h : i.operand = some v) :
    decodeAccess true i.reg v = if i.wellFormed = true then .ok i else .error .value := by
  unfold decodeAccess
  rw [if_pos rfl, writeInstr_eq_some_iff.mpr ⟨rfl, h⟩, illegalValue_eq_not_wellFormed h]
  cases i.wellFormed <;> rfl

theorem decodeAccess_read {i : Instr} (v : Word) (h : i.operand = none) : decodeAccess false i.reg v = .ok i := by
  unfold decodeAccess
  rw [if_neg Bool.false_ne_true, readInstr_eq_some_iff.mpr ⟨rfl, h⟩]

theorem decodeAccess_write_of_none {r : Reg} {v : Word} (h : writeInstr r v = none) :
    decodeAccess true r v = .error .access := by
  unfold decodeAccess
  rw [if_pos rfl, h]

theorem decodeAccess_read_of_none {r : Reg} (v : Word) (h : readInstr r = none) :
    decodeAccess false r v = .error .access := by
  unfold decodeAccess
  rw [if_neg Bool.false_ne_true, h]

theorem decodeAccess_eq_ok_iff {we : Bool} {r : Reg} {v : Word} {i : Instr} :
    decodeAccess we r v = .ok i ↔
      i.reg = r ∧ i.wellFormed = true ∧ i.operand = if we = true then some v else none := by
  constructor
  · intro h
    cases we with
    | true =>
      cases hw : writeInstr r v with
      | none => cases (decodeAccess_write_of_none hw).symm.trans h
      | some j =>
        obtain ⟨rfl, hop⟩ := writeInstr_eq_some_iff.mp hw
        rw [decodeAccess_write hop] at h
        split at h
        · cases h; exact ⟨rfl, ‹_›, hop⟩
        · cases h
    | false =>
      cases hr : readInstr r with
      | none => cases (decodeAccess_read_of_none v hr).symm.trans h
      | some j =>
        obtain ⟨rfl, hop⟩ := readInstr_eq_some_iff.mp hr
        cases (decodeAccess_read v hop).symm.trans h
        exact ⟨rfl, wellFormed_of_operand_eq_none hop, hop⟩
  · rintro ⟨rfl, hwf, hop⟩
    cases we with
    | true => rw [decodeAccess_write hop, if_pos hwf]
    | false => exact decodeAccess_read v hop

/-- A register that refuses one write refuses every write. -/
theorem writeInstr_eq_none_of_eq_none {r : Reg} {v : Word} (h : writeInstr r v = none) (w : Word) :
    writeInstr r w = none := by
  cases r <;> cases h <;> rfl

/-- An access to a register is refused in this direction whatever `WDATA` is (test 4 of R72), or is one of an
operation. -/
theorem access_refused_or_operation (we : Bool) (r : Reg) :
    (∀ d : Word, decodeAccess we r d = .error .access) ∨ ∃ i : Instr, i.operand.isSome = we ∧ i.reg = r := by
  cases we with
  | true =>
    cases h : writeInstr r 0 with
    | none => exact .inl fun d => decodeAccess_write_of_none (writeInstr_eq_none_of_eq_none h d)
    | some i =>
      obtain ⟨hreg, hop⟩ := writeInstr_eq_some_iff.mp h
      exact .inr ⟨i, by rw [hop]; rfl, hreg⟩
  | false =>
    cases h : readInstr r with
    | none => exact .inl fun d => decodeAccess_read_of_none d h
    | some i =>
      obtain ⟨hreg, hop⟩ := readInstr_eq_some_iff.mp h
      exact .inr ⟨i, by rw [hop]; rfl, hreg⟩

/-! ## What the decoder accepts -/

theorem encode_eq (i : Instr) : encode i = accessHeader i.operand.isSome i.reg.offset ++ i.operand.getD 0 := by
  cases i <;> rfl

theorem headerByte_encode (i : Instr) : headerByte (encode i) = accessHeader i.operand.isSome i.reg.offset := by
  rw [encode_eq, headerByte_header_data]

theorem fieldWDATA_encode (i : Instr) : fieldWDATA (encode i) = i.operand.getD 0 := by
  rw [encode_eq, fieldWDATA_header_data]

theorem fieldWE_of_headerByte {t : TransactionWord} {i : Instr} (h : headerByte t = headerByte (encode i)) :
    fieldWE t = i.operand.isSome := by
  obtain ⟨hwe, -, -⟩ := accessHeader_fields i.operand.isSome i.reg
  rw [← header_data_eq t, fieldWE_header_data, h, headerByte_encode, hwe]

/-- A header byte no operation has is refused by one of tests 1 to 4 of R72, the same for every `WDATA`. -/
theorem header_refused_or_operation (h : Byte) :
    (∃ e ∈ [ErrCause.format, .align, .addr, .access], ∀ d : Word, decode (h ++ d) = .error e) ∨
      ∃ i : Instr, h = headerByte (encode i) := by
  obtain ⟨e, he, hdecode⟩ | ⟨we, r, rfl⟩ := header_refused_or_access h
  · exact .inl ⟨e, List.mem_append_left [ErrCause.access] he, hdecode⟩
  · obtain haccess | ⟨i, rfl, rfl⟩ := access_refused_or_operation we r
    · exact .inl ⟨.access, by simp, fun d => (decode_accessHeader we r d).trans (haccess d)⟩
    · exact .inr ⟨i, (headerByte_encode i).symm⟩

/-- The accepted words: the header byte of a well-formed operation, and with a write its operand as `WDATA`. -/
theorem decode_eq_ok_iff {t : TransactionWord} {i : Instr} :
    decode t = .ok i ↔ headerByte t = headerByte (encode i) ∧ i.wellFormed = true ∧
      i.operand = if fieldWE t = true then some (fieldWDATA t) else none := by
  rw [headerByte_encode]
  constructor
  · intro h
    rw [← header_data_eq t] at h
    obtain ⟨e, -, he⟩ | ⟨we, r, hr⟩ := header_refused_or_access (headerByte t)
    · cases (he (fieldWDATA t)).symm.trans h
    · rw [hr, decode_accessHeader, decodeAccess_eq_ok_iff] at h
      obtain ⟨rfl, hwf, hop⟩ := h
      have hwe : fieldWE t = we := by
        rw [← header_data_eq t, fieldWE_header_data, hr, (accessHeader_fields we i.reg).1]
      have hsome : i.operand.isSome = we := by rw [hop]; cases we <;> rfl
      exact ⟨by rw [hr, hsome], hwf, by rw [hop, hwe]⟩
  · rintro ⟨hheader, hwf, hop⟩
    have hwe := fieldWE_of_headerByte (hheader.trans (headerByte_encode i).symm)
    rw [← header_data_eq t, hheader, decode_accessHeader, decodeAccess_eq_ok_iff, ← hwe]
    exact ⟨rfl, hwf, hop⟩

/-- A write through the port, its legal range given as any proposition `p`. -/
theorem decode_write {h : Byte} (r : Reg) {i : Instr} {v : Word} {p : Prop} [Decidable p]
    (hheader : h = accessHeader true r.offset) (hreg : i.reg = r) (hop : i.operand = some v)
    (hp : i.wellFormed = true ↔ p) : decode (h ++ v) = if p then .ok i else .error .value := by
  rw [hheader, ← hreg, decode_accessHeader, decodeAccess_write hop]
  exact if_congr hp rfl rfl

theorem decode_read {h : Byte} (r : Reg) {i : Instr} (hheader : h = accessHeader false r.offset) (hreg : i.reg = r)
    (v : Word) (hop : i.operand = none) : decode (h ++ v) = .ok i := by
  rw [hheader, ← hreg, decode_accessHeader, decodeAccess_read v hop]

/-! ## Encode and decode (R72, R75, R80) -/

/-- Settles O1: an operation's word has the operation's own header byte and, for a write, the operand as `WDATA`. -/
theorem encodedInstructionDecodesBack : Obligations.EncodedInstructionDecodesBack := by
  intro i hwf
  refine decode_eq_ok_iff.mpr ⟨rfl, hwf, ?_⟩
  rw [fieldWE_of_headerByte rfl, fieldWDATA_encode]
  cases i.operand <;> rfl

/-- Settles O2: an accepted write agrees with its operation's word in the header byte and in `WDATA`, and a read's
`WDATA` is not looked at. -/
theorem acceptedWordIsItsOperationsEncoding : Obligations.AcceptedWordIsItsOperationsEncoding := by
  intro t i h
  obtain ⟨hheader, hwf, hop⟩ := decode_eq_ok_iff.mp h
  refine ⟨hwf, hheader.symm, fun hwe => ?_, fun hwe d => ?_⟩
  · have hwe' : fieldWE t = true := hwe
    rw [hwe', if_pos rfl] at hop
    have hdata : fieldWDATA (encode i) = fieldWDATA t := by rw [fieldWDATA_encode, hop, Option.getD_some]
    rw [← header_data_eq (encode i), ← hheader, hdata, header_data_eq]
  · rw [hheader]
    have hwe' : fieldWE t = false := hwe
    rw [hwe', if_neg Bool.false_ne_true] at hop
    rw [headerByte_encode, hop]
    exact decode_read i.reg rfl rfl d hop

/-! ## The header bytes (R73) -/

theorem headerByte_encode_mem (i : Instr) :
    headerByte (encode i) ∈ [0x80#8, 0x84, 0x08, 0x8C, 0x0C, 0x10, 0xA0, 0xA4, 0x24, 0xA8, 0x28, 0x2C, 0x30] := by
  rw [headerByte_encode]
  cases i <;> simp [Instr.operand, Instr.reg, Reg.offset, accessHeader]

/-- Settles O3: the header bytes of the thirteen operations, and any other is no operation's. -/
theorem onlyThirteenHeadersSelectOperations : Obligations.OnlyThirteenHeadersSelectOperations := by
  refine ⟨fun d => ⟨?_, ?_, ?_, ?_, ?_, ?_, ?_, ?_, ?_, ?_, ?_, ?_, ?_⟩, fun h hmem => ?_⟩
  · exact decode_write .crcCtrl rfl rfl rfl (decide_eq_true_iff (p := d.toNat ≤ 0x1))
  · exact decode_write .crcData rfl rfl rfl (decide_eq_true_iff (p := d.toNat ≤ 0xFF))
  · exact decode_read .crcAcc rfl rfl d rfl
  · exact decode_write .crcExpect rfl rfl rfl (decide_eq_true_iff (p := d.toNat ≤ 0xFFFF))
  · exact decode_read .crcExpect rfl rfl d rfl
  · exact decode_read .crcStatus rfl rfl d rfl
  · exact decode_write .tgCtrl rfl rfl rfl (decide_eq_true_iff (p := d.toNat ≤ 0x2))
  · exact decode_write .tgBudget (p := True) rfl rfl rfl (iff_of_true rfl trivial)
  · exact decode_read .tgBudget rfl rfl d rfl
  · exact decode_write .tgMode rfl rfl rfl (decide_eq_true_iff (p := d.toNat ≤ 0x1))
  · exact decode_read .tgMode rfl rfl d rfl
  · exact decode_read .tgStatus rfl rfl d rfl
  · exact decode_read .tgRemaining rfl rfl d rfl
  · obtain hrefused | ⟨i, rfl⟩ := header_refused_or_operation h
    · exact hrefused
    · exact absurd (headerByte_encode_mem i) hmem

/-- Settles O4: R80's and V6's words, evaluated. -/
theorem specExampleWordsDecode : Obligations.SpecExampleWordsDecode :=
  ⟨rfl, rfl, rfl, rfl, rfl, rfl⟩

end Sys2Proof

namespace Sys2Proof.Machine

open Laws.EncodedFields (accessHeader)

/-! ## A write with an illegal operand (R72 test 5, R104, R105, R107, R137, R139) -/

theorem wrTgCtrl_illegal_eq (v : Word) : (reservedAbove2 v || v == 0x3) = decide (3 ≤ v.toNat) := by
  rw [reservedAbove2_eq, Bool.eq_iff_iff]
  simp [BitVec.toNat_eq]
  omega

theorem decide_succ_le_of_not_le {n m : Nat} (h : decide (n ≤ m) = false) : decide (m + 1 ≤ n) = true :=
  (decide_succ_le_eq_not n m).trans (congrArg not h)

theorem exec_of_not_wellFormed {i : Instr} (s : State) (h : i.wellFormed = false) : exec i s = raise .value s := by
  cases i with
  | wrCrcCtrl v =>
    rw [exec_wrCrcCtrl, (reservedAbove1_eq v).trans (decide_succ_le_of_not_le h), checkedWrite_illegal]
  | wrCrcData v =>
    rw [exec_wrCrcData, (reservedAbove8_eq v).trans (decide_succ_le_of_not_le h), checkedWrite_illegal]
  | wrCrcExpect v =>
    rw [exec_wrCrcExpect, (reservedAbove16_eq v).trans (decide_succ_le_of_not_le h), checkedWrite_illegal]
  | wrTgMode v =>
    rw [exec_wrTgMode, (reservedAbove1_eq v).trans (decide_succ_le_of_not_le h), checkedWrite_illegal]
  | wrTgCtrl v =>
    rw [exec_wrTgCtrl, (wrTgCtrl_illegal_eq v).trans (decide_succ_le_of_not_le h), checkedWrite_illegal]
  | wrTgBudget | rdCrcAcc | rdCrcExpect | rdCrcStatus | rdTgBudget | rdTgMode | rdTgStatus | rdTgRemaining => cases h

theorem transact_write {h : Byte} {i : Instr} {v : Word} (s : State) (r : Reg)
    (hheader : h = accessHeader true r.offset) (hreg : i.reg = r) (hop : i.operand = some v) :
    transact (h ++ v) s = exec i s := by
  have hdecode := decode_write r hheader hreg hop Iff.rfl
  cases hwf : i.wellFormed with
  | true =>
    rw [if_pos hwf] at hdecode
    exact transact_ok s hdecode
  | false =>
    rw [hwf, if_neg Bool.false_ne_true] at hdecode
    exact (transact_error s hdecode).trans (exec_of_not_wellFormed s hwf).symm

/-- Settles O8: where the decoder refuses an operand, the operation's own rule refuses it with the same code. -/
theorem portWriteAgreesWithOperationRule : Obligations.PortWriteAgreesWithOperationRule :=
  fun _ s => ⟨transact_write s .crcCtrl rfl rfl rfl, transact_write s .crcData rfl rfl rfl,
    transact_write s .crcExpect rfl rfl rfl, transact_write s .tgBudget rfl rfl rfl,
    transact_write s .tgMode rfl rfl rfl, transact_write s .tgCtrl rfl rfl rfl⟩

/-! ## Illegal words (R72, R76) -/

section
variable {t : TransactionWord} {r : Reg}

theorem decode_write_of_readOnly (hrsv : fieldRSV t = false) (hwe : fieldWE t = true) (haddr : fieldADDR t = r.offset)
    (hr : ∀ v, writeInstr r v = none) : decode t = .error .access := by
  rw [decode_of_offset hrsv haddr, hwe, decodeAccess_write_of_none (hr _)]

theorem decode_read_of_writeOnly (hrsv : fieldRSV t = false) (hwe : fieldWE t = false)
    (haddr : fieldADDR t = r.offset) (hr : readInstr r = none) : decode t = .error .access := by
  rw [decode_of_offset hrsv haddr, hwe, decodeAccess_read_of_none _ hr]

end

theorem decode_write_of_not_wellFormed {t : TransactionWord} {i : Instr} (hrsv : fieldRSV t = false)
    (hwe : fieldWE t = true) (haddr : fieldADDR t = i.reg.offset) (hop : i.operand = some (fieldWDATA t))
    (hwf : i.wellFormed = false) : decode t = .error .value := by
  rw [decode_of_offset hrsv haddr, hwe, decodeAccess_write hop, hwf]
  rfl

theorem readOnly_of_offset_mem {a : Offset} (h : a ∈ [0x08#6, 0x10#6, 0x2C#6, 0x30#6]) :
    ∃ r : Reg, a = r.offset ∧ ∀ v, writeInstr r v = none := by
  simp only [List.mem_cons, List.not_mem_nil, or_false] at h
  obtain rfl | rfl | rfl | rfl := h
  · exact ⟨.crcAcc, rfl, fun _ => rfl⟩
  · exact ⟨.crcStatus, rfl, fun _ => rfl⟩
  · exact ⟨.tgStatus, rfl, fun _ => rfl⟩
  · exact ⟨.tgRemaining, rfl, fun _ => rfl⟩

theorem writeOnly_of_offset_mem {a : Offset} (h : a ∈ [0x00#6, 0x04#6, 0x20#6]) :
    ∃ r : Reg, a = r.offset ∧ readInstr r = none := by
  simp only [List.mem_cons, List.not_mem_nil, or_false] at h
  obtain rfl | rfl | rfl := h
  · exact ⟨.crcCtrl, rfl, rfl⟩
  · exact ⟨.crcData, rfl, rfl⟩
  · exact ⟨.tgCtrl, rfl, rfl⟩

/-- The six reserved offsets pass test 2 of R72 and fail test 3. -/
theorem reserved_of_offset_mem {a : Offset} (h : a ∈ [0x14#6, 0x18#6, 0x1C#6, 0x34#6, 0x38#6, 0x3C#6]) :
    a.extractLsb' 0 2 = 0 ∧ Reg.ofOffset a = none := by
  revert a
  decide

/-- Settles O5: the clauses are the tests of R72 in order, the fifth once per write with reserved bits. -/
theorem illegalWordIsRefusedByFirstFailingTest : Obligations.IllegalWordIsRefusedByFirstFailingTest := by
  intro t s we rsv addr v refusedWith
  have hrefused {e : ErrCause} (h : decode t = .error e) : refusedWith e.code := transact_error s h
  have hvalue (i : Instr) (hrsv : rsv = false) (hwe : we = true) (haddr : addr = i.reg.offset)
      (hop : i.operand = some v) (hwf : i.wellFormed = false) : refusedWith 5 :=
    hrefused (decode_write_of_not_wellFormed hrsv hwe haddr hop hwf)
  refine ⟨fun hrsv => hrefused (decode_of_rsv hrsv), fun hrsv ha => hrefused (decode_of_misaligned hrsv ha),
    fun hrsv ha => ?_, fun hrsv hwe ha => ?_, fun hrsv hwe ha => ?_, fun hrsv hwe ha hv => ?_, fun hrsv hwe ha hv => ?_,
    fun hrsv hwe ha hv => ?_, fun hrsv hwe ha hv => ?_, fun hrsv hwe ha hv => ?_, fun h => ?_, ?_⟩
  · obtain ⟨halign, haddr⟩ := reserved_of_offset_mem ha
    exact hrefused (decode_of_reserved hrsv halign haddr)
  · obtain ⟨r, haddr, hr⟩ := readOnly_of_offset_mem ha
    exact hrefused (decode_write_of_readOnly hrsv hwe haddr hr)
  · obtain ⟨r, haddr, hr⟩ := writeOnly_of_offset_mem ha
    exact hrefused (decode_read_of_writeOnly hrsv hwe haddr hr)
  · exact hvalue (.wrCrcCtrl v) hrsv hwe ha rfl (decide_eq_false (Nat.not_le.mpr hv))
  · exact hvalue (.wrCrcData v) hrsv hwe ha rfl (decide_eq_false (Nat.not_le.mpr hv))
  · exact hvalue (.wrCrcExpect v) hrsv hwe ha rfl (decide_eq_false (Nat.not_le.mpr hv))
  · exact hvalue (.wrTgMode v) hrsv hwe ha rfl (decide_eq_false (Nat.not_le.mpr hv))
  · exact hvalue (.wrTgCtrl v) hrsv hwe ha rfl (decide_eq_false (Nat.not_le.mpr hv))
  · cases hdecode : decode t with
    | ok i => exact absurd hdecode (h i)
    | error e => exact ⟨e.code, hrefused hdecode⟩
  · rintro (rfl | rfl) <;> rfl

/-! ## `TG.HAS_EXPIRED` (R81, R82) -/

theorem hostRun_tgHasExpired (s : State) : hostRun tgHasExpired s = respond (tgStatusWord s) s :=
  (hostRun_singleton _ s).trans (transact_ok (i := .rdTgStatus) s rfl)

/-- The bit `STARTED` of the status word says whether `EXPIRED` is a result. -/
theorem hasExpired_tgStatusWord (err : Bool) (s : State) :
    (Response.mk err (tgStatusWord s)).hasExpired = if s.tgStarted then some (expiredBit s) else none := by
  rw [Response.hasExpired, tgStatusWord_started, tgStatusWord_expired]

theorem expiredBit_of_started {s : State} (hinv : s.Inv) (h : s.tgStarted = true) :
    expiredBit s = decide (s.tgUnb = false ∧ s.tgStart.toNat + s.tgBudget.toNat ≤ s.now.toNat) := by
  have hstart := hinv h
  have helapsed : s.tgBudget.toNat ≤ s.elapsed ↔ s.tgStart.toNat + s.tgBudget.toNat ≤ s.now.toNat := by
    rw [State.elapsed, elapsed]
    omega
  rw [expiredBit, h, Bool.true_and, expired, decide_eq_decide.mpr helapsed, Bool.decide_and]
  cases s.tgUnb <;> rfl

/-- Settles O47: the read answers the status word, whose bit `STARTED` decides whether there is a result. -/
theorem hasExpiredIsValidOnlyWhenStarted : Obligations.HasExpiredIsValidOnlyWhenStarted := by
  intro s
  refine ⟨_, _, hostRun_tgHasExpired s, rfl, rfl, fun h => ?_, fun h hinv => ?_⟩
  · rw [hasExpired_tgStatusWord, tgStatusWord_expired, expiredBit_of_not_started h, h]
    exact ⟨rfl, rfl⟩
  · rw [hasExpired_tgStatusWord, h, expiredBit_of_started hinv h]
    rfl

end Sys2Proof.Machine

namespace Sys2Proof.Machine

open Laws.EncodedFields (accessHeader)

/-! # The CRC unit (40_crc.md): the algebra of the step, single flipped bits, the six operations, the stream law -/

/-! ## The step is injective and linear (R113) -/

theorem crcRounds_injective (n : Nat) : Function.Injective (crcRounds n) := by
  intro c d h
  refine BitVec.xor_eq_zero_iff.mp (eq_zero_of_crcRounds n (c ^^^ d) ?_)
  rw [crcRounds_xor, h, BitVec.xor_self]
  rfl

theorem crcStep_injective (b : Byte) : Function.Injective fun c : Checksum => crcStep c b :=
  fun _ _ h => (BitVec.xor_left_inj _).mp (crcRounds_injective 8 h)

theorem crcStep_byte_injective (c : Checksum) : Function.Injective (crcStep c) := by
  intro a b h
  have hbyte := congrArg (BitVec.setWidth 8) ((BitVec.xor_right_inj c).mp (crcRounds_injective 8 h))
  simpa using hbyte

theorem crcStep_zero_byte (c : Checksum) : crcStep c 0 = crcRounds 8 c :=
  congrArg (crcRounds 8) BitVec.xor_zero

theorem crcStep_xor (c d : Checksum) (b : Byte) : crcStep (c ^^^ d) b = crcStep c b ^^^ crcStep d 0 := by
  rw [crcStep_zero_byte, crcStep, crcStep, ← crcRounds_xor]
  ac_rfl

theorem crcFold_injective (bs : Bytes) : Function.Injective fun c : Checksum => crcFold c bs := by
  induction bs with
  | nil => exact fun _ _ h => h
  | cons b bs ih => exact ih.comp (crcStep_injective b)

/-! ## One flipped bit (R113, R116) -/

theorem xor_twoPow_ne (b : Byte) (j : Fin 8) : b ^^^ BitVec.twoPow 8 j ≠ b := by
  intro h
  have hbit := congrArg (BitVec.getLsbD · j) h
  simp at hbit

/-- The step at the flipped byte gives another accumulator, and the bytes after it keep the two apart. -/
theorem crcFold_flipBit_ne {bs : Bytes} {i : Nat} (c : Checksum) (j : Fin 8) (hi : i < bs.length) :
    crcFold c (flipBit bs i j) ≠ crcFold c bs := by
  induction bs generalizing i c with
  | nil => cases hi
  | cons b bs ih =>
    cases i with
    | zero =>
      intro h
      have hstep : crcStep c (b ^^^ BitVec.twoPow 8 j) = crcStep c b := crcFold_injective bs h
      exact xor_twoPow_ne b j (crcStep_byte_injective c hstep)
    | succ i => exact ih (crcStep c b) (Nat.lt_of_succ_lt_succ hi)

/-- Settles O28: on the finite set of 16-bit values an injective step is a bijection. -/
theorem crcStepIsBijectiveAndLinear : Obligations.CrcStepIsBijectiveAndLinear :=
  ⟨fun b => Finite.injective_iff_bijective.mp (crcStep_injective b),
    crcStep_xor, fun _ _ j hi => crcFold_flipBit_ne _ j hi⟩

/-! ## The table form (R114) -/

theorem ushiftRight_setWidth_byte (b : Byte) : b.setWidth 16 >>> 8 = 0#16 := by
  apply BitVec.eq_of_getLsbD_eq
  intro i hi
  simp

/-- Rounds on a value whose low bits are all 0 are plain shifts. -/
theorem crcRounds_eq_ushiftRight {n : Nat} {c : Checksum} (h : ∀ i < n, c.getLsbD i = false) :
    crcRounds n c = c >>> n := by
  induction n generalizing c with
  | zero => exact (BitVec.ushiftRight_zero c).symm
  | succ n ih =>
    have hround : crcRound c = c >>> 1 := if_neg (by rw [h 0 n.succ_pos]; exact Bool.false_ne_true)
    have hlow : ∀ i < n, (c >>> 1).getLsbD i = false := fun i hi => by
      rw [BitVec.getLsbD_ushiftRight]
      exact h (1 + i) (by omega)
    rw [crcRounds, hround, ih hlow, ← BitVec.shiftRight_add, Nat.add_comm]

/-- Eight rounds shift the high byte down and take the low byte through the table. -/
theorem crcRounds_eight (c : Checksum) : crcRounds 8 c = (c >>> 8) ^^^ crcTable (c.extractLsb' 0 8) := by
  have hhigh : crcRounds 8 (c ^^^ (c.extractLsb' 0 8).setWidth 16) = c >>> 8 := by
    rw [crcRounds_eq_ushiftRight fun i hi => by simp [hi, Nat.lt_trans hi], BitVec.ushiftRight_xor_distrib,
      ushiftRight_setWidth_byte, BitVec.xor_zero]
  rw [crcTable, crcStep, zero_xor, ← hhigh, ← crcRounds_xor, BitVec.xor_assoc, BitVec.xor_self, BitVec.xor_zero]

theorem crcStep_eq_crcTable (c : Checksum) (b : Byte) :
    crcStep c b = (c >>> 8) ^^^ crcTable ((c ^^^ b.setWidth 16).extractLsb' 0 8) := by
  rw [crcStep, crcRounds_eight, BitVec.ushiftRight_xor_distrib, ushiftRight_setWidth_byte, BitVec.xor_zero]

/-- Settles O29: the table form for every operand, and the printed entries evaluated. -/
theorem crcStepHasTableForm : Obligations.CrcStepHasTableForm :=
  ⟨crcStep_eq_crcTable, by decide⟩

/-! ## The wire form and the residue (R111, R115) -/

theorem crcUnwire_getLsbD (x y : Byte) (i : Nat) :
    (crcUnwire x y).getLsbD i = if i < 8 then x.getLsbD i else y.getLsbD (i - 8) :=
  BitVec.getLsbD_append

theorem crcUnwire_toNat (x y : Byte) : (crcUnwire x y).toNat = x.toNat + 256 * y.toNat := by
  rw [crcUnwire, BitVec.toNat_append, ← Nat.shiftLeft_add_eq_or_of_lt x.isLt, Nat.shiftLeft_eq]
  omega

/-- Settles O27: the two bytes of a checksum put together again are the checksum. -/
theorem wireFormIsLittleEndian : Obligations.WireFormIsLittleEndian := by
  refine ⟨fun c => ⟨_, _, rfl, ?_, crcUnwire_bytes c⟩, crcUnwire_toNat, by decide, by decide⟩
  rw [← crcUnwire_toNat, crcUnwire_bytes]

/-- A checksum's own low byte cancels it down to its high byte. -/
theorem crcStep_crcUnwire (x y : Byte) : crcStep (crcUnwire x y) x = y.setWidth 16 := by
  have hlow : ∀ i < 8, (crcUnwire x y ^^^ x.setWidth 16).getLsbD i = false := fun i hi => by
    rw [BitVec.getLsbD_xor, crcUnwire_getLsbD, if_pos hi]
    simp [Nat.lt_trans hi]
  rw [crcStep, crcRounds_eq_ushiftRight hlow]
  apply BitVec.eq_of_getLsbD_eq
  intro i hi
  simp [crcUnwire_getLsbD, hi]

theorem crcStep_eq_zero_iff (c : Checksum) (b : Byte) : crcStep c b = 0 ↔ c = b.setWidth 16 := by
  have hzero : crcStep (b.setWidth 16) b = 0 := by
    rw [crcStep, BitVec.xor_self]
    rfl
  rw [← hzero]
  exact (crcStep_injective b).eq_iff

/-- The residue law: two more bytes lead to 0 exactly when they are the accumulator in its wire form. -/
theorem crcFold_pair_eq_zero_iff (c : Checksum) (x y : Byte) : crcFold c [x, y] = 0 ↔ crcUnwire x y = c := by
  rw [crcFold_cons, crcFold_cons, crcFold_nil, crcStep_eq_zero_iff, ← crcStep_crcUnwire, eq_comm]
  exact (crcStep_injective x).eq_iff

theorem crc16_append_pair_eq_zero_iff (bs : Bytes) (x y : Byte) :
    crc16 (bs ++ [x, y]) = 0 ↔ crcUnwire x y = crc16 bs := by
  rw [crc16, crcFold_append]
  exact crcFold_pair_eq_zero_iff (crc16 bs) x y

theorem crc16_append_crcWire (bs : Bytes) : crc16 (bs ++ crcWire (crc16 bs)) = 0 :=
  (crc16_append_pair_eq_zero_iff bs _ _).mpr (crcUnwire_bytes (crc16 bs))

/-- Settles O30: the residue law, and that the wire bytes of a checksum are the matching ones. -/
theorem residueIsZeroExactlyOnMatch : Obligations.ResidueIsZeroExactlyOnMatch :=
  ⟨crc16_append_crcWire, crc16_append_pair_eq_zero_iff⟩

/-- A received payload and checksum that differ in one bit from those sent do not match: the residue is not 0. -/
theorem crcUnwire_ne_of_flipBit {p q : Bytes} {i : Nat} {j : Fin 8} {x y : Byte} (hi : i < p.length + 2)
    (h : flipBit (p ++ crcWire (crc16 p)) i j = q ++ [x, y]) : crcUnwire x y ≠ crc16 q := by
  have hi' : i < (p ++ crcWire (crc16 p)).length := by rw [List.length_append]; exact hi
  have hflip : crc16 (flipBit (p ++ crcWire (crc16 p)) i j) ≠ crc16 (p ++ crcWire (crc16 p)) :=
    crcFold_flipBit_ne _ j hi'
  rw [h, crc16_append_crcWire] at hflip
  exact fun hmatch => hflip ((crc16_append_pair_eq_zero_iff q x y).mpr hmatch)

/-! ## The checksum as a fold (R101, R102) -/

set_option maxRecDepth 20000 in
/-- The check value of R102: the checksum of "123456789". -/
theorem crc16_check_value : crc16 [0x31, 0x32, 0x33, 0x34, 0x35, 0x36, 0x37, 0x38, 0x39] = 0x4B37 := by decide

/-- Settles O25: the fold over a sequence with one more byte ends with the step of that byte. -/
theorem checksumIsFoldFromSeed : Obligations.ChecksumIsFoldFromSeed :=
  ⟨rfl, fun bs b => crcFold_append Params.crcSeed bs [b], crc16_check_value⟩

/-! ## The operations (R104 to R109) -/

theorem fieldBYTE_eq_setWidth (v : Word) : fieldBYTE v = v.setWidth 8 :=
  (BitVec.setWidth_eq_extractLsb' (by decide)).symm

theorem fieldEXPECT_eq_setWidth (v : Word) : fieldEXPECT v = v.setWidth 16 :=
  (BitVec.setWidth_eq_extractLsb' (by decide)).symm

theorem zextChecksum_eq_append (c : Checksum) : zextChecksum c = 0#16 ++ c := by
  rw [zextChecksum, BitVec.setWidth_eq_append (by decide)]
  rfl

theorem zextBit_matchBit (s : State) : zextBit (matchBit s) = if s.crcAcc = s.crcExpect then 1 else 0 := by
  by_cases h : s.crcAcc = s.crcExpect
  · rw [if_pos h, matchBit, beq_iff_eq.mpr h]
    rfl
  · rw [if_neg h, matchBit, beq_false_of_ne h]
    rfl

/-- The word of a write is the header byte of its register and the operand. -/
theorem encode_write {h : Byte} {i : Instr} {v : Word} (r : Reg) (hheader : h = accessHeader true r.offset)
    (hreg : i.reg = r) (hop : i.operand = some v) : encode i = h ++ v := by
  rw [encode_eq, hop, hreg, hheader]
  rfl

/-- The word of a read is the header byte of its register and a zero `WDATA`. -/
theorem encode_read {h : Byte} {i : Instr} (r : Reg) (hheader : h = accessHeader false r.offset)
    (hreg : i.reg = r) (hop : i.operand = none) : encode i = h ++ 0#32 := by
  rw [encode_eq, hop, hreg, hheader]
  rfl

theorem exec_wrCrcCtrl_init (s : State) :
    exec (.wrCrcCtrl 0x1) s = .next ((s.setCrcAcc Params.crcSeed).setResponse { err := false, rdata := 0 }) := rfl

theorem exec_wrCrcData_legal {v : Word} (s : State) (hv : v ≤ 0xFF) :
    exec (.wrCrcData v) s =
      .next ((s.setCrcAcc (crcStep s.crcAcc (v.setWidth 8))).setResponse { err := false, rdata := 0 }) := by
  have hlegal : reservedAbove8 v = false :=
    (reservedAbove8_eq v).trans (decide_eq_false (Nat.not_le.mpr (Nat.lt_succ_of_le hv)))
  rw [exec_wrCrcData, hlegal, checkedWrite_legal, fieldBYTE_eq_setWidth, respond]

theorem exec_wrCrcExpect_legal {v : Word} (s : State) (hv : v ≤ 0xFFFF) :
    exec (.wrCrcExpect v) s = .next ((s.setCrcExpect (v.setWidth 16)).setResponse { err := false, rdata := 0 }) := by
  have hlegal : reservedAbove16 v = false :=
    (reservedAbove16_eq v).trans (decide_eq_false (Nat.not_le.mpr (Nat.lt_succ_of_le hv)))
  rw [exec_wrCrcExpect, hlegal, checkedWrite_legal, fieldEXPECT_eq_setWidth, respond]

theorem exec_rdCrcAcc (s : State) :
    exec .rdCrcAcc s = .next (s.setResponse { err := false, rdata := 0#16 ++ s.crcAcc }) := by
  rw [← zextChecksum_eq_append]
  rfl

/-- Settles O19: `INIT` and the write of 0 evaluated; any other operand is not well formed. -/
theorem writeCrcCtrlInitialises : Obligations.WriteCrcCtrlInitialises := by
  intro s v
  refine ⟨encode_write .crcCtrl rfl rfl rfl, ?_, ?_, fun hv => ?_⟩
  · rintro rfl; exact exec_wrCrcCtrl_init s
  · rintro rfl; rfl
  · exact exec_of_not_wellFormed s (decide_eq_false (Nat.not_le.mpr hv))

/-- Settles O20: a legal and an illegal operand, and the example's values evaluated. -/
theorem writeCrcDataFeedsOneByte : Obligations.WriteCrcDataFeedsOneByte := by
  intro s v
  refine ⟨encode_write .crcData rfl rfl rfl, exec_wrCrcData_legal s, fun hv => ?_, crcStep_seed_zero, by decide,
    by decide⟩
  exact exec_of_not_wellFormed s (decide_eq_false (Nat.not_le.mpr hv))

/-- Settles O22: a legal and an illegal operand. -/
theorem writeCrcExpectLoadsValue : Obligations.WriteCrcExpectLoadsValue := by
  intro s v
  refine ⟨encode_write .crcExpect rfl rfl rfl, exec_wrCrcExpect_legal s, fun hv => ?_⟩
  exact exec_of_not_wellFormed s (decide_eq_false (Nat.not_le.mpr hv))

/-- Settles O23: the answer is the zero extension of the stored value. -/
theorem readCrcExpectReturnsValue : Obligations.ReadCrcExpectReturnsValue := by
  intro s
  rw [← zextChecksum_eq_append]
  exact ⟨encode_read .crcExpect rfl rfl rfl, rfl⟩

/-- Settles O24: the answer is `MATCH`, the test of the two values for equality. -/
theorem readCrcStatusCompares : Obligations.ReadCrcStatusCompares := by
  intro s
  rw [← zextBit_matchBit]
  exact ⟨encode_read .crcStatus rfl rfl rfl, exec_rdCrcStatus s⟩

/-! ## The checksum through the port (R81, R106) -/

/-- A well-formed operation's own word performs it. -/
theorem transact_encode {i : Instr} (s : State) (hwf : i.wellFormed = true) : transact (encode i) s = exec i s :=
  transact_ok s (encodedInstructionDecodesBack i hwf)

theorem hostRun_cons_next {t : TransactionWord} {s u : State} (ts : List TransactionWord)
    (h : transact t s = .next u) : hostRun (t :: ts) s = hostRun ts u :=
  applyEvents_cons_next (e := .transaction t) _ h

theorem setWidth_toNat_lt {n : Nat} (x : BitVec n) (hn : n ≤ 32) : (x.setWidth 32).toNat < 2 ^ n := by
  rw [BitVec.toNat_setWidth_of_le hn]
  exact x.isLt

theorem transact_wrCrcData_byte (b : Byte) (s : State) :
    transact (wr .crcData (b.setWidth 32)) s =
      .next ((s.setCrcAcc (crcStep s.crcAcc b)).setResponse { err := false, rdata := 0 }) := by
  have hle : b.setWidth 32 ≤ 0xFF#32 := Nat.le_of_lt_succ (setWidth_toNat_lt b (by decide))
  have hexec := exec_wrCrcData_legal s hle
  rw [BitVec.setWidth_setWidth_of_le b (by decide), BitVec.setWidth_eq] at hexec
  exact (transact_encode (i := .wrCrcData _) s (decide_eq_true hle)).trans hexec

theorem transact_wrCrcExpect_checksum (c : Checksum) (s : State) :
    transact (wr .crcExpect (c.setWidth 32)) s =
      .next ((s.setCrcExpect c).setResponse { err := false, rdata := 0 }) := by
  have hle : c.setWidth 32 ≤ 0xFFFF#32 := Nat.le_of_lt_succ (setWidth_toNat_lt c (by decide))
  have hexec := exec_wrCrcExpect_legal s hle
  rw [BitVec.setWidth_setWidth_of_le c (by decide), BitVec.setWidth_eq] at hexec
  exact (transact_encode (i := .wrCrcExpect _) s (decide_eq_true hle)).trans hexec

/-- `CRC16.BYTES` folds its bytes into the accumulator; every write of it answers as the one before it. -/
theorem hostRun_crc16Bytes (bs : Bytes) (s : State) :
    hostRun (crc16Bytes bs) (s.setResponse { err := false, rdata := 0 }) =
      .next ((s.setCrcAcc (crcFold s.crcAcc bs)).setResponse { err := false, rdata := 0 }) := by
  induction bs generalizing s with
  | nil => rfl
  | cons b bs ih =>
    exact (hostRun_cons_next _ (transact_wrCrcData_byte b _)).trans (ih (s.setCrcAcc (crcStep s.crcAcc b)))

/-- `CRC16.BEGIN` and `CRC16.BYTES`: the accumulator is the checksum of the bytes, from every state. -/
theorem hostRun_begin_bytes (bs : Bytes) (s : State) :
    hostRun (crc16Begin ++ crc16Bytes bs) s =
      .next ((s.setCrcAcc (crc16 bs)).setResponse { err := false, rdata := 0 }) := by
  have hinit : transact (wr .crcCtrl 0x1) s = _ :=
    (transact_encode (i := .wrCrcCtrl 0x1) s rfl).trans (exec_wrCrcCtrl_init s)
  exact (hostRun_cons_next _ hinit).trans (hostRun_crc16Bytes bs (s.setCrcAcc Params.crcSeed))

/-- The pseudo-instruction `CRC16`: the checksum of its bytes is read back, from every state. -/
theorem hostRun_crc16Sequence (bs : Bytes) (s : State) :
    hostRun (crc16Sequence bs) s =
      .next ((s.setCrcAcc (crc16 bs)).setResponse { err := false, rdata := 0#16 ++ crc16 bs }) := by
  rw [crc16Sequence, hostRun_append_next _ (hostRun_begin_bytes bs s), crc16Result, hostRun_singleton]
  exact (transact_encode (i := .rdCrcAcc) _ rfl).trans (exec_rdCrcAcc _)

/-- `CRC16.CHECK` answers whether the two bytes are the accumulator's wire form. -/
theorem hostRun_crc16Check (x y : Byte) (s : State) :
    hostRun (crc16Check x y) s =
      .next ((s.setCrcExpect (crcUnwire x y)).setResponse
        { err := false, rdata := if s.crcAcc = crcUnwire x y then 1 else 0 }) := by
  have hexpect := transact_wrCrcExpect_checksum (crcUnwire x y) s
  refine (hostRun_cons_next _ hexpect).trans ((hostRun_singleton _ _).trans ?_)
  have hstatus := exec_rdCrcStatus ((s.setCrcExpect (crcUnwire x y)).setResponse { err := false, rdata := 0 })
  rw [zextBit_matchBit] at hstatus
  exact (transact_encode (i := .rdCrcStatus) _ rfl).trans hstatus

/-- Settles O21: the read, and the example as `CRC16` of the nine bytes with the check value. -/
theorem readCrcAccReturnsAccumulator : Obligations.ReadCrcAccReturnsAccumulator := by
  intro s
  refine ⟨encode_read .crcAcc rfl rfl rfl, exec_rdCrcAcc s, ?_⟩
  rw [hostRun_crc16Sequence, crc16_check_value]
  rfl

/-- Settles O31: the block compares the checksum of the received payload with the received one, and they differ. -/
theorem singleBitFlipNeverMatches : Obligations.SingleBitFlipNeverMatches := by
  intro p i j x y s hi received hxy
  have hreceived : received = received.take p.length ++ [x, y] := by rw [← hxy, List.take_append_drop]
  have hne := crcUnwire_ne_of_flipBit hi hreceived
  rw [hostRun_append_next _ (hostRun_begin_bytes _ s), hostRun_crc16Check]
  refine ⟨_, rfl, ?_⟩
  rw [State.setResponse_response, State.setResponse_crcAcc, State.setCrcAcc_crcAcc, if_neg hne.symm]

/-! ## The stream law (R110, R117) -/

/-- An operation of the TG unit leaves the CRC unit as it was (R2). -/
theorem sameCrcUnit_of_exec_tg {i : Instr} {s t : State} (hi : isCrcOperation i = false) (h : exec i s = .next t) :
    sameCrcUnit t s := by
  obtain ⟨s', -, hs', -, -, -, hsame⟩ := unitsShareNoState.2 i s s hi (sameUnit_refl false s)
  cases hs'.symm.trans h
  exact hsame

/-- A well-formed operation that is no `INIT` folds the byte it feeds, if any, into the accumulator. -/
theorem crcAcc_of_exec {i : Instr} {s t : State} (hwf : i.wellFormed = true) (hinit : isInitWrite i = false)
    (h : exec i s = .next t) : t.crcAcc = crcFold s.crcAcc (byteFedBy i).toList := by
  cases i with
  | wrCrcCtrl v =>
    have hfield : fieldINIT v = false := hinit
    rw [exec_wrCrcCtrl, hfield] at h
    obtain ⟨-, rfl⟩ | ⟨-, rfl⟩ := checkedWrite_cases h <;> rfl
  | wrCrcData v =>
    cases (exec_wrCrcData_legal s (of_decide_eq_true hwf)).symm.trans h
    rw [byteFedBy, fieldBYTE_eq_setWidth]
    rfl
  | wrCrcExpect v =>
    rw [exec_wrCrcExpect] at h
    obtain ⟨-, rfl⟩ | ⟨-, rfl⟩ := checkedWrite_cases h <;> rfl
  | rdCrcAcc | rdCrcExpect | rdCrcStatus =>
    obtain ⟨r, rfl⟩ := next_of_exec_read rfl h
    rfl
  | wrTgBudget | rdTgBudget | wrTgMode | rdTgMode | wrTgCtrl | rdTgStatus | rdTgRemaining =>
    exact (sameCrcUnit_of_exec_tg rfl h).1

theorem crcAcc_of_applyEvent {e : Event} {s t : State} (he : restartsCrc e = false) (h : applyEvent e s = .next t) :
    t.crcAcc = crcFold s.crcAcc (fedByte e).toList := by
  cases e with
  | transaction w =>
    rw [restartsCrc, Event.operation] at he
    rw [fedByte, Event.operation]
    cases hw : decode w with
    | ok i =>
      rw [hw] at he
      obtain ⟨hwf, -⟩ := acceptedWordIsItsOperationsEncoding w i hw
      exact crcAcc_of_exec hwf he ((transact_ok s hw).symm.trans h)
    | error e =>
      cases (transact_error s hw).symm.trans h
      rfl
  | tick =>
    obtain ⟨-, rfl, -⟩ := tickNow_cases h
    rfl
  | reset => cases he

/-- Acts that do not restart the checksum fold the bytes they feed into the accumulator, in order. -/
theorem crcAcc_of_applyEvents {es : List Event} {s t : State} (hes : ∀ e ∈ es, restartsCrc e = false)
    (h : applyEvents es s = .next t) : t.crcAcc = crcFold s.crcAcc (es.filterMap fedByte) := by
  induction es generalizing s with
  | nil => cases h; rfl
  | cons e es ih =>
    obtain ⟨he, hes⟩ := List.forall_mem_cons.mp hes
    obtain ⟨u, hu, ht⟩ := applyEvents_cons_cases h
    rw [ih hes ht, crcAcc_of_applyEvent he hu]
    cases hb : fedByte e with
    | none => rw [List.filterMap_cons_none hb]; rfl
    | some b => rw [List.filterMap_cons_some hb]; rfl

/-- A reset and an `INIT` load the seed. -/
theorem crcAcc_of_restart {e : Event} {s t : State} (he : e = .reset ∨ e = .transaction 0x8000000001)
    (h : applyEvent e s = .next t) : t.crcAcc = Params.crcSeed := by
  obtain rfl | rfl := he
  · cases h; rfl
  · have htransact : transact 0x8000000001 s = .next t := h
    cases (transact_ok s (i := .wrCrcCtrl 0x1) rfl).symm.trans htransact
    rfl

/-- Settles O26: the first act loads the seed and the others fold their bytes into it. -/
theorem accumulatorIsChecksumOfBytesFed : Obligations.AccumulatorIsChecksumOfBytesFed := by
  intro first es s t hfirst hes h
  obtain ⟨u, hu, ht⟩ := applyEvents_cons_cases h
  have hacc : t.crcAcc = crc16 (es.filterMap fedByte) := by
    rw [crcAcc_of_applyEvents hes ht, crcAcc_of_restart hfirst hu, crc16]
  refine ⟨hacc, ?_⟩
  rw [← hacc]
  exact exec_rdCrcAcc t

end Sys2Proof.Machine

namespace Sys2Proof.Machine

/-! # The TG unit (41_timeout.md): the two functions of time, the seven operations, the laws over sequences of acts -/

/-! ## `remaining` and `expired` (R131, R132, R145) -/

theorem remFloor_eq_zero_or_one : Params.remFloor = 0 ∨ Params.remFloor = 1 := by
  unfold Params.remFloor
  cases Config.remFloorIsOne with
  | true => exact .inr rfl
  | false => exact .inl rfl

theorem toNat_le_one {f : Word} (hf : f = 0 ∨ f = 1) : f.toNat ≤ 1 := by
  obtain rfl | rfl := hf <;> decide

theorem toNat_sub_ofNat_of_lt {e : Nat} {b : Word} (h : e < b.toNat) : (b - BitVec.ofNat 32 e).toNat = b.toNat - e := by
  have he : (BitVec.ofNat 32 e).toNat = e := (BitVec.toNat_ofNat e 32).trans (Nat.mod_eq_of_lt (h.trans b.isLt))
  rw [BitVec.toNat_sub_of_le (BitVec.le_def.mpr (he.trans_le h.le)), he]

/-- R131's maximum: before expiry the difference is at least 1, so at least either admitted floor. -/
theorem toNat_remaining {f : Word} (hf : f = 0 ∨ f = 1) (e : Nat) (b : Word) :
    (remaining f e b).toNat = max f.toNat (b.toNat - e) := by
  have hfloor := toNat_le_one hf
  obtain h | h := Nat.lt_or_ge e b.toNat
  · rw [remaining_before f h, toNat_sub_ofNat_of_lt h]
    omega
  · rw [remaining_after f h]
    omega

theorem remaining_eq_iff {f : Word} (hf : f = 0 ∨ f = 1) (e : Nat) (b w : Word) :
    remaining f e b = w ↔ max f.toNat (b.toNat - e) = w.toNat := by
  rw [BitVec.toNat_eq, toNat_remaining hf]

theorem expired_unbounded (e : Nat) (b : Word) : expired e b true = false := rfl

theorem expired_finite (e : Nat) (b : Word) : expired e b false = decide (b.toNat ≤ e) := rfl

theorem expired_finite_iff (e : Nat) (b : Word) : expired e b false = true ↔ b.toNat ≤ e := by
  rw [expired_finite, decide_eq_true_iff]

/-- Settles O39: the maximum of floor and difference, which is at most that of floor and budget. -/
theorem remainingIsBudgetMinusElapsedFloored : Obligations.RemainingIsBudgetMinusElapsedFloored := by
  refine ⟨fun f e b hf => ⟨toNat_remaining hf e b, ?_⟩, remFloor_eq_zero_or_one⟩
  rw [toNat_remaining hf]
  omega

/-- Settles O40: the comparison includes equality. -/
theorem expiredIsElapsedReachedBudget : Obligations.ExpiredIsElapsedReachedBudget :=
  fun e b => ⟨expired_unbounded e b, expired_finite_iff e b, (expired_finite_iff _ b).mpr le_rfl⟩

/-- Settles O45: both queries say by R131 and R132 whether the difference `budget - e` is 0. -/
theorem queriesAgreeAtOneInstant : Obligations.QueriesAgreeAtOneInstant := by
  intro e b
  have hzero : remaining 0 e b = 0 ↔ max 0 (b.toNat - e) = 0 := remaining_eq_iff (.inl rfl) e b 0
  have hone : remaining 1 e b = 1 ↔ max 1 (b.toNat - e) = 1 := remaining_eq_iff (.inr rfl) e b 1
  rw [← Bool.not_eq_true, expired_finite_iff, hzero, hone]
  omega

/-! ## The writes (R135, R137, R139) -/

/-- Settles O32: every value is legal. -/
theorem writeTgBudgetSetsBudget : Obligations.WriteTgBudgetSetsBudget :=
  fun _ _ => ⟨encode_write .tgBudget rfl rfl rfl, rfl⟩

/-- Settles O34: the two legal operands evaluated; any other is not well formed. -/
theorem writeTgModeSetsUnbounded : Obligations.WriteTgModeSetsUnbounded := by
  intro s v
  refine ⟨encode_write .tgMode rfl rfl rfl, ?_, ?_, fun hv => ?_⟩
  · rintro rfl; rfl
  · rintro rfl; rfl
  · exact exec_of_not_wellFormed s (decide_eq_false (Nat.not_le.mpr hv))

/-- Settles O36: the three legal operands evaluated; any other is not well formed. -/
theorem writeTgCtrlStartsOrDiscards : Obligations.WriteTgCtrlStartsOrDiscards := by
  intro s v
  refine ⟨encode_write .tgCtrl rfl rfl rfl, ?_, ?_, ?_, fun hv => ?_⟩
  · rintro rfl; rfl
  · rintro rfl; exact exec_wrTgCtrl_start s
  · rintro rfl; rfl
  · exact exec_of_not_wellFormed s (decide_eq_false (Nat.not_le.mpr hv))

/-! ## The reads (R136, R138, R140, R141) -/

theorem zextBit_eq_ite (b : Bool) : zextBit b = if b = true then 1 else 0 := by
  cases b <;> rfl

/-- Settles O33: the answer is the stored budget. -/
theorem readTgBudgetReturnsBudget : Obligations.ReadTgBudgetReturnsBudget :=
  fun _ => ⟨encode_read .tgBudget rfl rfl rfl, rfl⟩

/-- Settles O35: the answer is the zero extension of the stored bit. -/
theorem readTgModeReturnsUnbounded : Obligations.ReadTgModeReturnsUnbounded := by
  intro s
  rw [← zextBit_eq_ite]
  exact ⟨encode_read .tgMode rfl rfl rfl, rfl⟩

theorem tgStatusWord_of_not_started {s : State} (h : s.tgStarted = false) :
    tgStatusWord s = if s.tgUnb = true then 4 else 0 := by
  rw [tgStatusWord, expiredBit_of_not_started h, h]
  cases s.tgUnb <;> rfl

theorem tgStatusWord_of_unbounded {s : State} (hstarted : s.tgStarted = true) (hunb : s.tgUnb = true) :
    tgStatusWord s = 5 := by
  rw [tgStatusWord, expiredBit, hstarted, hunb, expired_unbounded]
  rfl

theorem tgStatusWord_of_finite {s : State} (hstarted : s.tgStarted = true) (hunb : s.tgUnb = false) :
    tgStatusWord s = if s.tgBudget.toNat ≤ s.elapsed then 3 else 1 := by
  rw [tgStatusWord, expiredBit, hstarted, hunb, expired_finite]
  by_cases h : s.tgBudget.toNat ≤ s.elapsed
  · rw [if_pos h, decide_eq_true h]; rfl
  · rw [if_neg h, decide_eq_false h]; rfl

theorem tgStatusWord_mem (s : State) : tgStatusWord s ∈ [0x0#32, 0x1#32, 0x3#32, 0x4#32, 0x5#32] := by
  cases hstarted : s.tgStarted with
  | false => rw [tgStatusWord_of_not_started hstarted]; split <;> decide
  | true =>
    cases hunb : s.tgUnb with
    | true => rw [tgStatusWord_of_unbounded hstarted hunb]; decide
    | false => rw [tgStatusWord_of_finite hstarted hunb]; split <;> decide

/-- The word `0x3` is answered exactly by a started, finite and expired governor. -/
theorem tgStatusWord_eq_three_iff (s : State) :
    tgStatusWord s = 3 ↔ s.tgStarted = true ∧ s.tgUnb = false ∧ s.tgBudget.toNat ≤ s.elapsed := by
  constructor
  · intro h
    have hstarted : s.tgStarted = true := by rw [← tgStatusWord_started, h]; rfl
    have hunb : s.tgUnb = false := by rw [← tgStatusWord_unbounded, h]; rfl
    refine ⟨hstarted, hunb, ?_⟩
    by_contra hlt
    rw [tgStatusWord_of_finite hstarted hunb, if_neg hlt] at h
    exact absurd h (by decide)
  · rintro ⟨hstarted, hunb, hle⟩
    rw [tgStatusWord_of_finite hstarted hunb, if_pos hle]

/-- Settles O37: the answer is the status word, whose bits are the two flags and `expiredBit`. -/
theorem readTgStatusAnswersExpiry : Obligations.ReadTgStatusAnswersExpiry := by
  intro s
  refine ⟨encode_read .tgStatus rfl rfl rfl, tgStatusWord s, exec_rdTgStatus s, tgStatusWord_mem s,
    tgStatusWord_started s, tgStatusWord_unbounded s, fun hinv => ?_⟩
  rw [tgStatusWord_expired]
  cases hstarted : s.tgStarted with
  | false => simp [expiredBit_of_not_started hstarted]
  | true => rw [expiredBit_of_started hinv hstarted, decide_eq_true_iff, eq_self, true_and]

theorem exec_rdTgRemaining_of_unbounded {s : State} (hstarted : s.tgStarted = true) (hunb : s.tgUnb = true) :
    exec .rdTgRemaining s = respond 0xFFFFFFFF s :=
  (if_neg (by rw [hstarted]; decide)).trans (if_pos hunb)

theorem exec_rdTgRemaining_of_finite {s : State} (hstarted : s.tgStarted = true) (hunb : s.tgUnb = false) :
    exec .rdTgRemaining s = respond (remaining Params.remFloor s.elapsed s.tgBudget) s :=
  (if_neg (by rw [hstarted]; decide)).trans (if_neg (by rw [hunb]; decide))

/-- Settles O38: the three branches of the read. -/
theorem readTgRemainingAnswersTimeLeft : Obligations.ReadTgRemainingAnswersTimeLeft := by
  refine ⟨remFloor_eq_zero_or_one, fun s => ⟨encode_read .tgRemaining rfl rfl rfl,
    exec_rdTgRemaining_of_not_started, exec_rdTgRemaining_of_unbounded, fun hstarted hunb => ?_⟩⟩
  exact ⟨_, exec_rdTgRemaining_of_finite hstarted hunb, fun _ => toNat_remaining remFloor_eq_zero_or_one _ _⟩

/-! ## Refusals (R141, R191): only `ERR_NOT_STARTED` depends on the state -/

/-- A checked write of an operand `n` that is at most the greatest legal value `m`. -/
theorem checkedWrite_eq_respond {illegal : Bool} {effect : State → State} {s : State} {n m : Nat}
    (hillegal : illegal = decide (m + 1 ≤ n)) (hle : decide (n ≤ m) = true) :
    ∃ (v : Word) (u : State), checkedWrite illegal effect s = respond v u := by
  rw [hillegal, decide_succ_le_eq_not, hle]
  exact ⟨0, effect s, checkedWrite_legal effect s⟩

/-- A well-formed operation is answered without error, but for `RD TG_REMAINING` with no governor started. -/
theorem exec_wellFormed_cases {i : Instr} (hwf : i.wellFormed = true) (s : State) :
    (i = .rdTgRemaining ∧ s.tgStarted = false) ∨ ∃ (v : Word) (u : State), exec i s = respond v u := by
  cases i with
  | wrCrcCtrl v => rw [exec_wrCrcCtrl]; exact .inr (checkedWrite_eq_respond (reservedAbove1_eq v) hwf)
  | wrCrcData v => rw [exec_wrCrcData]; exact .inr (checkedWrite_eq_respond (reservedAbove8_eq v) hwf)
  | wrCrcExpect v => rw [exec_wrCrcExpect]; exact .inr (checkedWrite_eq_respond (reservedAbove16_eq v) hwf)
  | wrTgMode v => rw [exec_wrTgMode]; exact .inr (checkedWrite_eq_respond (reservedAbove1_eq v) hwf)
  | wrTgCtrl v => rw [exec_wrTgCtrl]; exact .inr (checkedWrite_eq_respond (wrTgCtrl_illegal_eq v) hwf)
  | rdTgRemaining =>
    cases hstarted : s.tgStarted with
    | false => exact .inl ⟨rfl, rfl⟩
    | true =>
      cases hunb : s.tgUnb with
      | true => exact .inr ⟨_, _, exec_rdTgRemaining_of_unbounded hstarted hunb⟩
      | false => exact .inr ⟨_, _, exec_rdTgRemaining_of_finite hstarted hunb⟩
  | wrTgBudget | rdCrcAcc | rdCrcExpect | rdCrcStatus | rdTgBudget | rdTgMode | rdTgStatus => exact .inr ⟨_, _, rfl⟩

theorem decodeAccess_ne_notStarted (we : Bool) (r : Reg) (v : Word) : decodeAccess we r v ≠ .error .notStarted := by
  cases we with
  | true =>
    cases h : writeInstr r v with
    | none => rw [decodeAccess_write_of_none h]; nofun
    | some i =>
      obtain ⟨rfl, hop⟩ := writeInstr_eq_some_iff.mp h
      rw [decodeAccess_write hop]
      split <;> nofun
  | false =>
    cases h : readInstr r with
    | none => rw [decodeAccess_read_of_none v h]; nofun
    | some i =>
      obtain ⟨rfl, hop⟩ := readInstr_eq_some_iff.mp h
      rw [decodeAccess_read v hop]
      nofun

/-- `ERR_NOT_STARTED` is no decoding error: none of the five tests of R72 has it. -/
theorem decode_ne_notStarted (t : TransactionWord) : decode t ≠ .error .notStarted := by
  rw [← header_data_eq t]
  obtain ⟨e, hmem, he⟩ | ⟨we, r, hr⟩ := header_refused_or_access (headerByte t)
  · rw [he]
    rintro ⟨⟩
    exact absurd hmem (by decide)
  · rw [hr, decode_accessHeader]
    exact decodeAccess_ne_notStarted we r _

theorem code_eq_six_iff (e : ErrCause) : e.code = 6 ↔ e = .notStarted := by
  cases e <;> decide

/-- Settles O7: a word the decoder refuses is refused alike in every state, and an accepted one is refused only as
`RD TG_REMAINING` with no governor started. -/
theorem onlyNotStartedDependsOnState : Obligations.OnlyNotStartedDependsOnState := by
  intro t s s' r hs' hr herr
  cases ht : decode t with
  | error e =>
    cases (transact_error s ht).symm.trans hs'
    cases hr
    refine ⟨fun hcode => ?_, fun _ u => transact_error u ht⟩
    rw [(code_eq_six_iff e).mp hcode] at ht
    exact absurd ht (decode_ne_notStarted t)
  | ok i =>
    rw [transact_ok s ht] at hs'
    obtain ⟨hwf, hheader, -, -⟩ := acceptedWordIsItsOperationsEncoding t i ht
    obtain ⟨rfl, hstarted⟩ | ⟨v, u, hexec⟩ := exec_wellFormed_cases hwf s
    · cases (exec_rdTgRemaining_of_not_started hstarted).symm.trans hs'
      cases hr
      exact ⟨fun _ => ⟨hheader.symm, hstarted⟩, fun hne => absurd rfl hne⟩
    · cases hexec.symm.trans hs'
      cases hr
      cases herr

/-! ## Acts that leave the governor alone (R143) -/

/-- `t` is `n` ticks after `s` with the governor left alone: its four elements are those of `s`. -/
structure GovernorKept (n : Nat) (s t : State) : Prop where
  budget : t.tgBudget = s.tgBudget
  unb : t.tgUnb = s.tgUnb
  started : t.tgStarted = s.tgStarted
  start : t.tgStart = s.tgStart
  now : t.now.toNat = s.now.toNat + n

namespace GovernorKept

theorem of_sameTgUnit {s t : State} (h : sameTgUnit t s) : GovernorKept 0 s t := by
  obtain ⟨hbudget, hunb, hstarted, hstart, hnow⟩ := h
  exact ⟨hbudget, hunb, hstarted, hstart, congrArg BitVec.toNat hnow⟩

theorem trans {n m : Nat} {s u t : State} (hu : GovernorKept n s u) (ht : GovernorKept m u t) :
    GovernorKept (n + m) s t where
  budget := ht.budget.trans hu.budget
  unb := ht.unb.trans hu.unb
  started := ht.started.trans hu.started
  start := ht.start.trans hu.start
  now := by rw [ht.now, hu.now, Nat.add_assoc]

/-- Time since the start only grows, in every state. -/
theorem elapsed_le {n : Nat} {s t : State} (h : GovernorKept n s t) : s.elapsed ≤ t.elapsed := by
  simp only [State.elapsed, elapsed, h.start, h.now]
  omega

/-- Where the start is not after `NOW` (R38), it grows by the ticks. -/
theorem elapsed_eq {n : Nat} {s t : State} (h : GovernorKept n s t) (hstart : s.tgStart.toNat ≤ s.now.toNat) :
    t.elapsed = s.elapsed + n := by
  simp only [State.elapsed, elapsed, h.start, h.now]
  omega

end GovernorKept

theorem sameTgUnit_of_exec {i : Instr} {s t : State} (hi : writesGovernor i = false) (h : exec i s = .next t) :
    sameTgUnit t s := by
  cases i with
  | wrCrcCtrl | wrCrcData | rdCrcAcc | wrCrcExpect | rdCrcExpect | rdCrcStatus => exact sameTgUnit_of_exec_crc rfl h
  | rdTgBudget | rdTgMode | rdTgStatus | rdTgRemaining =>
    obtain ⟨r, rfl⟩ := next_of_exec_read rfl h
    exact sameUnit_refl false s
  | wrTgBudget | wrTgMode | wrTgCtrl => cases hi

/-- A refused word, too, leaves the TG unit as it was. -/
theorem sameTgUnit_of_transact {w : TransactionWord} {s t : State} (hw : leavesGovernor (.transaction w) = true)
    (h : transact w s = .next t) : sameTgUnit t s := by
  cases hdecode : decode w with
  | ok i =>
    have hi : writesGovernor i = false := by
      simpa [leavesGovernor, Event.operation, hdecode, Except.toOption] using hw
    exact sameTgUnit_of_exec hi ((transact_ok s hdecode).symm.trans h)
  | error e =>
    cases (transact_error s hdecode).symm.trans h
    exact sameUnit_refl false s

theorem governorKept_of_applyEvent {e : Event} {s t : State} (he : leavesGovernor e = true)
    (h : applyEvent e s = .next t) : GovernorKept (tickCount [e]) s t := by
  cases e with
  | transaction w => exact .of_sameTgUnit (sameTgUnit_of_transact he h)
  | tick =>
    obtain ⟨-, rfl, hnow⟩ := tickNow_cases h
    exact ⟨rfl, rfl, rfl, rfl, hnow⟩
  | reset => cases he

theorem governorKept_of_applyEvents {es : List Event} {s t : State} (hes : ∀ e ∈ es, leavesGovernor e = true)
    (h : applyEvents es s = .next t) : GovernorKept (tickCount es) s t := by
  induction es generalizing s with
  | nil => cases h; exact .of_sameTgUnit (sameUnit_refl false _)
  | cons e es ih =>
    obtain ⟨he, hes⟩ := List.forall_mem_cons.mp hes
    obtain ⟨u, hu, ht⟩ := applyEvents_cons_cases h
    rw [tickCount_cons]
    exact (governorKept_of_applyEvent he hu).trans (ih hes ht)

/-! ## Expiry over sequences (R133, R143, R152) -/

theorem exec_rdTgStatus_eq_next_iff (s : State) (w : Word) :
    exec .rdTgStatus s = .next { s with response := some ⟨false, w⟩ } ↔ tgStatusWord s = w := by
  rw [exec_rdTgStatus]
  constructor
  · intro h
    have hresponse := congrArg State.response ((respond_eq_next_iff _ _ _).mp h)
    cases hresponse
    rfl
  · rintro rfl; rfl

/-- Settles O43: the elements that decide expiry are kept, and elapsed time only grows. -/
theorem expiryIsMonotone : Obligations.ExpiryIsMonotone := by
  intro es s t hs hes h
  rw [exec_rdTgStatus_eq_next_iff, tgStatusWord_eq_three_iff] at hs ⊢
  obtain ⟨hstarted, hunb, hle⟩ := hs
  have hkept := governorKept_of_applyEvents hes h
  refine ⟨hkept.started.trans hstarted, hkept.unb.trans hunb, ?_⟩
  rw [hkept.budget]
  exact hle.trans hkept.elapsed_le

theorem elapsed_startGovernor (s : State) (r : Response) : (s.startGovernor.setResponse r).elapsed = 0 :=
  Nat.sub_self _

/-- After `START` and acts that leave the governor alone, it is started, and elapsed time is the ticks since. -/
theorem governor_after_start {es : List Event} {s t : State} (hes : ∀ e ∈ es, leavesGovernor e = true)
    (h : applyEvents (.transaction 0xA000000001 :: es) s = .next t) :
    t.tgBudget = s.tgBudget ∧ t.tgUnb = s.tgUnb ∧ t.tgStarted = true ∧ t.elapsed = tickCount es := by
  obtain ⟨u, hu, ht⟩ := applyEvents_cons_cases h
  have htransact : transact 0xA000000001 s = .next u := hu
  cases ((transact_ok s (i := .wrTgCtrl 0x1) rfl).trans (exec_wrTgCtrl_start s)).symm.trans htransact
  have hkept := governorKept_of_applyEvents hes ht
  refine ⟨hkept.budget, hkept.unb, hkept.started, ?_⟩
  rw [hkept.elapsed_eq le_rfl, elapsed_startGovernor, Nat.zero_add]

/-- Settles O46: elapsed time is the ticks since `START`, compared with the budget. -/
theorem expiryExactlyAfterBudgetTicks : Obligations.ExpiryExactlyAfterBudgetTicks := by
  intro es s t hunb hes h
  obtain ⟨hbudget, hunb', hstarted, helapsed⟩ := governor_after_start hes h
  rw [exec_rdTgStatus_eq_next_iff, exec_rdTgStatus_eq_next_iff, tgStatusWord_of_finite hstarted (hunb'.trans hunb),
    hbudget, helapsed]
  exact ⟨fun hlt => if_neg (Nat.not_le.mpr hlt), fun hle => if_pos hle⟩

/-- Settles O41: any number of ticks reaches a zero budget. -/
theorem zeroBudgetExpiresAtEveryCheck : Obligations.ZeroBudgetExpiresAtEveryCheck := by
  intro es s t hunb hbudget hes h
  obtain ⟨-, hreached⟩ := expiryExactlyAfterBudgetTicks es s t hunb hes h
  exact hreached (by rw [hbudget]; exact Nat.zero_le _)

/-! ## An unbounded governor (R134) -/

theorem transact_wrTgBudget (v : Word) (s : State) :
    transact (0xA4#8 ++ v) s = .next ((s.setTgBudget v).setResponse { err := false, rdata := 0 }) :=
  transact_write s .tgBudget (i := .wrTgBudget v) rfl rfl rfl

theorem mode_kept_of_applyEvents {es : List Event} {s t : State}
    (hes : ∀ e ∈ es, leavesGovernor e = true ∨ ∃ v : Word, e = .transaction (0xA4#8 ++ v))
    (h : applyEvents es s = .next t) : t.tgUnb = s.tgUnb ∧ t.tgStarted = s.tgStarted := by
  induction es generalizing s with
  | nil => cases h; exact ⟨rfl, rfl⟩
  | cons e es ih =>
    obtain ⟨he, hes⟩ := List.forall_mem_cons.mp hes
    obtain ⟨u, hu, ht⟩ := applyEvents_cons_cases h
    obtain ⟨hunb, hstarted⟩ := ih hes ht
    obtain he | ⟨v, rfl⟩ := he
    · have hkept := governorKept_of_applyEvent he hu
      exact ⟨hunb.trans hkept.unb, hstarted.trans hkept.started⟩
    · cases (transact_wrTgBudget v s).symm.trans hu
      exact ⟨hunb, hstarted⟩

/-- Settles O42: no such act changes `TG_UNB` or `TG_STARTED`, and with both set no query reads the budget. -/
theorem unboundedBudgetNeverExpires : Obligations.UnboundedBudgetNeverExpires := by
  intro es s t hunb hstarted hes h
  obtain ⟨hunb', hstarted'⟩ := mode_kept_of_applyEvents hes h
  rw [hunb] at hunb'
  rw [hstarted] at hstarted'
  exact ⟨(exec_rdTgStatus_eq_next_iff t 5).mpr (tgStatusWord_of_unbounded hstarted' hunb'),
    exec_rdTgRemaining_of_unbounded hstarted' hunb', fun hes' => (governorKept_of_applyEvents hes' h).budget⟩

/-! ## Remaining time over sequences (R144) -/

/-- Settles O44: elapsed time is 0 at `START` and grows by the ticks, so the difference falls by them, down to the
floor. -/
theorem remainingFallsByTicksToFloor : Obligations.RemainingFallsByTicksToFloor := by
  have hfloor := toNat_remaining remFloor_eq_zero_or_one
  refine ⟨fun s t hunb h => ?_, fun es s t hinv hstarted hunb hes h => ?_⟩
  · cases (exec_wrTgCtrl_start s).symm.trans h
    refine ⟨_, exec_rdTgRemaining_of_finite rfl hunb, ?_⟩
    rw [hfloor, elapsed_startGovernor]
    rfl
  · have hkept := governorKept_of_applyEvents hes h
    have hread := exec_rdTgRemaining_of_finite (hkept.started.trans hstarted) (hkept.unb.trans hunb)
    refine ⟨_, _, exec_rdTgRemaining_of_finite hstarted hunb, hread, ?_⟩
    rw [hfloor, hfloor, hkept.budget, hkept.elapsed_eq (hinv hstarted)]
    omega

end Sys2Proof.Machine

namespace Sys2Proof.Machine

/-! # The frame functions (42_frame.md): stripping and acquiring, decoding, the round trip, the use of the block -/

/-! ## Leading zeros (R163) -/

theorem stripLeadingZeros_of_head {bs : Bytes} (h : bs.head? ≠ some 0) : stripLeadingZeros bs = bs := by
  cases bs with
  | nil => rfl
  | cons b bs => exact stripLeadingZeros_cons_of_ne bs fun hb => h (congrArg some hb)

theorem stripLeadingZeros_replicate_append (z : Nat) (bs : Bytes) :
    stripLeadingZeros (List.replicate z 0 ++ bs) = stripLeadingZeros bs := by
  induction z with
  | zero => rfl
  | succ z ih => exact (stripLeadingZeros_zero_cons _).trans ih

/-- Settles O49, by induction on the sequence: a zero in front is one more byte stripped, any other byte ends the
prefix. -/
theorem stripRemovesLongestZeroPrefix : Obligations.StripRemovesLongestZeroPrefix := by
  intro bs
  induction bs with
  | nil => exact ⟨⟨0, rfl⟩, nofun⟩
  | cons b bs ih =>
    by_cases hb : b = 0
    · obtain ⟨⟨k, hk⟩, hhead⟩ := ih
      rw [hb, stripLeadingZeros_zero_cons]
      exact ⟨⟨k + 1, congrArg (0 :: ·) hk⟩, hhead⟩
    · rw [stripLeadingZeros_cons_of_ne bs hb]
      exact ⟨⟨0, rfl⟩, fun h => hb (Option.some.inj h)⟩

theorem head?_stripLeadingZeros_ne (bs : Bytes) : (stripLeadingZeros bs).head? ≠ some 0 :=
  (stripRemovesLongestZeroPrefix bs).2

/-- Stripping what has arrived, before the rest arrives, does not change what is stripped in the end. -/
theorem stripLeadingZeros_strip_append (as bs : Bytes) :
    stripLeadingZeros (stripLeadingZeros as ++ bs) = stripLeadingZeros (as ++ bs) := by
  obtain ⟨⟨k, hk⟩, -⟩ := stripRemovesLongestZeroPrefix as
  conv_rhs => rw [hk, List.append_assoc, stripLeadingZeros_replicate_append]

theorem length_stripLeadingZeros_le (bs : Bytes) : (stripLeadingZeros bs).length ≤ bs.length :=
  List.length_dropWhile_le _ bs

/-! ## The receive loop (R164, R175) -/

/-- The first `target` bytes of a sequence and what follows them, `none` where there are fewer. -/
def splitAtTarget (target : Nat) (bs : Bytes) : Option (Bytes × Bytes) :=
  if target ≤ bs.length then some (bs.take target, bs.drop target) else none

theorem splitAtTarget_append {target : Nat} {as : Bytes} (bs : Bytes) (h : as.length = target) :
    splitAtTarget target (as ++ bs) = some (as, bs) := by
  rw [splitAtTarget, if_pos (by rw [List.length_append]; omega), List.take_left' h, List.drop_left' h]

theorem splitAtTarget_of_short {target : Nat} {bs : Bytes} (h : bs.length < target) : splitAtTarget target bs = none :=
  if_neg (Nat.not_le.mpr h)

/-- The loop of `frame_acquire` with a buffer that holds no leading zero and at most `target` bytes: every pass keeps
the stripped form of buffer and stream together, and reads no byte past the frame. -/
theorem acquireLoop_eq {target fuel : Nat} {buf rx : Bytes} (htarget : 0 < target) (hfuel : rx.length ≤ fuel)
    (hhead : buf.head? ≠ some 0) (hbuf : buf.length ≤ target) :
    acquireLoop target fuel buf rx = splitAtTarget target (stripLeadingZeros (buf ++ rx)) := by
  induction fuel generalizing buf rx with
  | zero =>
    obtain rfl := List.eq_nil_of_length_eq_zero (Nat.le_zero.mp hfuel)
    rw [List.append_nil, stripLeadingZeros_of_head hhead, acquireLoop]
    split
    next hfull => rw [← splitAtTarget_append [] (Nat.le_antisymm hbuf hfull), List.append_nil]
    next hmissing => exact (splitAtTarget_of_short (Nat.not_le.mp hmissing)).symm
  | succ fuel ih =>
    rw [acquireLoop]
    split
    next hfull =>
      have hstrip : stripLeadingZeros (buf ++ rx) = buf ++ rx := by
        refine stripLeadingZeros_of_head ?_
        rwa [List.head?_append_of_ne_nil _ (List.ne_nil_of_length_pos (htarget.trans_le hfull))]
      rw [hstrip, splitAtTarget_append rx (Nat.le_antisymm hbuf hfull)]
    next hmissing =>
      have hmax : max 1 (target - buf.length) = target - buf.length := by omega
      simp only [hmax]
      split
      next hshort =>
        refine (splitAtTarget_of_short ((length_stripLeadingZeros_le _).trans_lt ?_)).symm
        rw [List.length_append]
        omega
      next hread =>
        have hbuf' := length_stripLeadingZeros_le (buf ++ rx.take (target - buf.length))
        rw [List.length_append, List.length_take] at hbuf'
        rw [ih (by rw [List.length_drop]; omega) (head?_stripLeadingZeros_ne _) (by omega),
          stripLeadingZeros_strip_append, List.append_assoc, List.take_append_drop]

theorem frameAcquire_eq (rx : Bytes) (size : Nat) :
    frameAcquire rx size = splitAtTarget (size + 2) (stripLeadingZeros rx) :=
  acquireLoop_eq (Nat.succ_pos _) le_rfl nofun (Nat.zero_le _)

/-- Settles O50: the loop splits the stripped stream, and zeros in front do not change that. -/
theorem acquireIsStrippedPrefix : Obligations.AcquireIsStrippedPrefix := by
  intro rx size
  refine ⟨frameAcquire_eq rx size, fun z => ?_⟩
  rw [frameAcquire_eq, frameAcquire_eq, stripLeadingZeros_replicate_append]

/-- A frame that begins with no zero byte is acquired whole, whatever zeros precede it and whatever follows. -/
theorem frameAcquire_zeros_frame_rest {frame : Bytes} {size : Nat} (z : Nat) (rest : Bytes)
    (hlen : frame.length = size + 2) (hhead : frame.head? ≠ some 0) :
    frameAcquire (List.replicate z 0 ++ frame ++ rest) size = some (frame, rest) := by
  have hne : frame ≠ [] := List.ne_nil_of_length_eq_add_one hlen
  rw [frameAcquire_eq, List.append_assoc, stripLeadingZeros_replicate_append,
    stripLeadingZeros_of_head (by rwa [List.head?_append_of_ne_nil _ hne]), splitAtTarget_append rest hlen]

theorem length_of_frameAcquire {rx f rest : Bytes} {size : Nat} (h : frameAcquire rx size = some (f, rest)) :
    f.length = size + 2 := by
  rw [frameAcquire_eq, splitAtTarget] at h
  split at h
  next hle =>
    cases h
    exact List.length_take_of_le hle
  next => cases h

/-! ## Echo, payload and checksum of a frame (R162, R165) -/

theorem exists_eq_append_pair {f : Bytes} (h : 2 ≤ f.length) : ∃ (d : Bytes) (x y : Byte), f = d ++ [x, y] := by
  obtain ⟨x, y, hxy⟩ : ∃ x y, f.drop (f.length - 2) = [x, y] :=
    List.length_eq_two.mp (by rw [List.length_drop]; omega)
  exact ⟨f.take (f.length - 2), x, y, by rw [← hxy, List.take_append_drop]⟩

theorem echoOf_append {echo : Bytes} (p : Bytes) (h : echo.length = 4) : echoOf (echo ++ p) = echo :=
  List.take_left' h

theorem payloadOf_append {echo : Bytes} (p : Bytes) (h : echo.length = 4) : payloadOf (echo ++ p) = p :=
  List.drop_left' h

theorem frameEncode_of_length {data : Bytes} (h : 4 ≤ data.length) :
    frameEncode data = .ok (data ++ crcWire (crc16 (payloadOf data))) :=
  if_neg (Nat.not_lt.mpr h)

theorem frameEncode_append {echo : Bytes} (p : Bytes) (h : echo.length = 4) :
    frameEncode (echo ++ p) = .ok (echo ++ p ++ crcWire (crc16 p)) := by
  rw [frameEncode_of_length (by rw [List.length_append]; omega), payloadOf_append p h]

theorem frameDecode_append (d : Bytes) (x y : Byte) :
    frameDecode (d ++ [x, y]) =
      if crc16 (payloadOf d) = crcUnwire x y then decodeEcho d
      else .error (.checksumMismatch (crc16 (payloadOf d)) (crcUnwire x y)) := by
  simp only [frameDecode, receivedChecksum_append, sliceButLastTwo_append]

/-- A good checksum leaves the decision to the echo. -/
theorem frameDecode_append_crcWire {echo : Bytes} (p : Bytes) (h : echo.length = 4) :
    frameDecode (echo ++ p ++ crcWire (crc16 p)) = decodeEcho (echo ++ p) :=
  (frameDecode_append _ _ _).trans (if_pos (by rw [payloadOf_append p h, crcUnwire_bytes]))

theorem decodeEcho_of_not_sentinel {data : Bytes} (h : isSentinel (echoOf data) = false) :
    decodeEcho data = .ok (payloadOf data) := by
  simp only [isSentinel, Bool.or_eq_false_iff, beq_eq_false_iff_ne] at h
  obtain ⟨⟨hc, hd⟩, hv⟩ := h
  rw [decodeEcho, if_neg hc, if_neg hd, if_neg hv]

/-- All that the inspection of the echo can raise. -/
theorem mem_of_decodeEcho_eq_error {data : Bytes} {e : FrameError} (h : decodeEcho data = .error e) :
    e ∈ [FrameError.deviceCommandError, .deviceChecksumError, .deviceRangeError] := by
  unfold decodeEcho at h
  split at h
  · cases h; decide
  split at h
  · cases h; decide
  split at h
  · cases h; decide
  · cases h

theorem decodeEcho_ne_checksumMismatch (data : Bytes) (c r : Checksum) :
    decodeEcho data ≠ .error (.checksumMismatch c r) :=
  fun h => by simpa using mem_of_decodeEcho_eq_error h

theorem frameDecode_append_ne_malformedFrame (d : Bytes) (x y : Byte) :
    frameDecode (d ++ [x, y]) ≠ .error .malformedFrame := by
  rw [frameDecode_append]
  split
  · exact fun h => absurd (mem_of_decodeEcho_eq_error h) (by decide)
  · exact nofun

/-- Settles O55: the stripped stream begins with the frame, its checksum is good, and the echo is no sentinel. -/
theorem framingRoundTrip : Obligations.FramingRoundTrip := by
  intro z echo p rest hlen hhead hsentinel
  have hne : echo ≠ [] := List.ne_nil_of_length_eq_add_one hlen
  refine ⟨_, frameEncode_append p hlen, frameAcquire_zeros_frame_rest z rest ?_ ?_, ?_⟩
  · rw [List.length_append, List.length_append, hlen]
    rfl
  · rwa [List.append_assoc, List.head?_append_of_ne_nil _ hne]
  · rw [← echoOf_append p hlen] at hsentinel
    rw [frameDecode_append_crcWire p hlen, decodeEcho_of_not_sentinel hsentinel, payloadOf_append p hlen]

/-- Settles O51: the steps after the length test are those of `frameDecode_append` and `decodeEcho`. -/
theorem frameDecodeChecksThenInspectsEcho : Obligations.FrameDecodeChecksThenInspectsEcho := by
  refine ⟨fun f hf => ?_, fun data x y => ?_⟩
  · match f, hf with
    | [], _ => rfl
    | [_], _ => rfl
  · rw [frameDecode_append, ← ite_not]
    rfl

theorem seed_eq_crcUnwire_iff (x y : Byte) : 0xFFFF = crcUnwire x y ↔ x = 0xFF ∧ y = 0xFF := by
  simp only [BitVec.toNat_eq, crcUnwire_toNat]
  have hx := x.isLt
  change 65535 = x.toNat + 256 * y.toNat ↔ x.toNat = 255 ∧ y.toNat = 255
  omega

/-- Settles O52: there is no payload, so its checksum is the seed, and no sentinel fits; an acquired frame has the two
bytes of a checksum. -/
theorem shortFrameNeedsEmptyChecksum : Obligations.ShortFrameNeedsEmptyChecksum := by
  refine ⟨fun data x y hshort => ?_, fun rx f rest size h => ?_⟩
  · have hpayload : payloadOf data = [] := List.drop_eq_nil_of_le hshort.le
    have hsentinel : isSentinel (echoOf data) = false := by
      have hecho : echoOf data = data := List.take_of_length_le hshort.le
      rw [hecho]
      simp only [isSentinel, Bool.or_eq_false_iff, beq_eq_false_iff_ne]
      refine ⟨⟨?_, ?_⟩, ?_⟩ <;> rintro rfl <;> exact absurd hshort (by decide)
    have hseed : crc16 [] = 0xFFFF := rfl
    rw [frameDecode_append, hpayload, hseed, decodeEcho_of_not_sentinel hsentinel, hpayload]
    simp only [seed_eq_crcUnwire_iff]
    rfl
  · have hlen := length_of_frameAcquire h
    obtain ⟨d, x, y, rfl⟩ := exists_eq_append_pair (f := f) (by omega)
    exact ⟨hlen, frameDecode_append_ne_malformedFrame d x y⟩

/-- Settles O57: the checksum is good, and each of the three echoes is the one its own test compares with. -/
theorem sentinelsRaiseTheirOwnErrors : Obligations.SentinelsRaiseTheirOwnErrors :=
  fun p => ⟨frameDecode_append_crcWire p rfl, frameDecode_append_crcWire p rfl, frameDecode_append_crcWire p rfl⟩

set_option maxRecDepth 20000 in
/-- The checksum of the payload of R162's example. -/
theorem crc16_example_payload : crc16 [0x10, 0x27, 0x00, 0x00] = 0xEFB4 := by decide

/-- Settles O48: the wire form of the payload's checksum, evaluated for the empty payload and the example's. -/
theorem frameEncodeAppendsChecksum : Obligations.FrameEncodeAppendsChecksum := by
  refine ⟨fun data hshort => if_pos hshort, fun echo p hlen => ?_, fun echo hlen => ?_, ?_⟩
  · obtain ⟨lo, hi, hwire, hvalue, -⟩ := wireFormIsLittleEndian.1 (crc16 p)
    exact ⟨lo, hi, hwire ▸ frameEncode_append p hlen, hvalue⟩
  · have hencode := frameEncode_append [] hlen
    rwa [List.append_nil] at hencode
  · have hencode := frameEncode_append (echo := [0x6D, 0x6F, 0x76, 0x65]) [0x10, 0x27, 0x00, 0x00] rfl
    rwa [crc16_example_payload] at hencode

/-! ## One flipped bit (R174) -/

theorem length_flipBit (bs : Bytes) (i : Nat) (j : Fin 8) : (flipBit bs i j).length = bs.length :=
  List.length_modify ..

/-- Settles O56: the echo in front keeps the frame's boundary, and the flipped bit makes the checksums differ. -/
theorem flippedBitRaisesMismatch : Obligations.FlippedBitRaisesMismatch := by
  refine ⟨fun echo p c r hlen => ?_, fun z echo p rest i j hlen hhead hi => ?_⟩
  · rw [frameDecode_append_crcWire p hlen]
    exact decodeEcho_ne_checksumMismatch _ c r
  · have hne : echo ≠ [] := List.ne_nil_of_length_eq_add_one hlen
    have hflip : (flipBit (p ++ crcWire (crc16 p)) i j).length = p.length + 2 := by
      rw [length_flipBit, List.length_append]
      rfl
    obtain ⟨q, x, y, hq⟩ := exists_eq_append_pair (hflip ▸ Nat.le_add_left 2 _)
    have hmismatch : crc16 q ≠ crcUnwire x y := (crcUnwire_ne_of_flipBit hi hq).symm
    refine ⟨_, crc16 q, crcUnwire x y, frameAcquire_zeros_frame_rest z rest ?_ ?_, hmismatch, ?_⟩
    · rw [List.length_append, hlen, hflip, Nat.add_assoc]
    · rwa [List.head?_append_of_ne_nil _ hne]
    · rw [hq, ← List.append_assoc, frameDecode_append, payloadOf_append q hlen, if_neg hmismatch]

/-! ## Sending and checking with the block (R171, R172) -/

/-- The wire bytes of a checksum read through the port are those of the checksum. -/
theorem wire_zero_append (err : Bool) (c : Checksum) : (Response.mk err (0#16 ++ c)).wire = crcWire c := by
  have hlow : (0#16 ++ c).extractLsb' 0 8 = c.extractLsb' 0 8 := BitVec.extractLsb'_append_eq_of_add_le (by decide)
  have hhigh : (0#16 ++ c).extractLsb' 8 8 = c.extractLsb' 8 8 := BitVec.extractLsb'_append_eq_of_add_le (by decide)
  rw [Response.wire, crcWire, hlow, hhigh]

/-- Settles O53: the block reads back the payload's checksum, which is what `frame_encode` appends. -/
theorem sendingThroughBlockIsFrameEncode : Obligations.SendingThroughBlockIsFrameEncode := by
  intro data s hlen
  refine ⟨_, hostRun_crc16Sequence (payloadOf data) s, rfl, ?_⟩
  rw [sentBytes, wire_zero_append, frameEncode_of_length hlen]

/-- The transactions of a check, from every state: both checksums are in the block, and the answer is whether they are
equal. -/
theorem hostRun_checkSequence_append (d : Bytes) (x y : Byte) (s : State) :
    hostRun (checkSequence (d ++ [x, y])) s =
      .next (((s.setCrcAcc (crc16 (payloadOf d))).setCrcExpect (crcUnwire x y)).setResponse
        { err := false, rdata := if crc16 (payloadOf d) = crcUnwire x y then 1 else 0 }) := by
  simp only [checkSequence, sliceLastTwo_append, sliceButLastTwo_append]
  rw [hostRun_append_next _ (hostRun_begin_bytes _ s), hostRun_crc16Check]
  rfl

/-- Settles O54: the answer is the test that `frame_decode` makes, on the same two values. -/
theorem checkingThroughBlockIsFrameDecode : Obligations.CheckingThroughBlockIsFrameDecode := by
  intro f s hlen
  obtain ⟨d, x, y, rfl⟩ := exists_eq_append_pair hlen
  refine ⟨_, decide (crc16 (payloadOf d) = crcUnwire x y), hostRun_checkSequence_append d x y s, ?_, ?_, ?_,
    sameUnit_refl false s⟩
  · simp only [decide_eq_true_eq]
    rfl
  · intro hmatch c r
    rw [frameDecode_append, if_pos (of_decide_eq_true hmatch)]
    exact decodeEcho_ne_checksumMismatch d c r
  · intro hmismatch
    rw [frameDecode_append, if_neg (of_decide_eq_false hmismatch)]
    rfl

/-- What the host makes of the answer `MATCH`: a pass, or the error report of the two values it then reads. -/
theorem checkFrame_of_hostAnswer {frame : Bytes} {s t : State} {status : Response} (hlen : 2 ≤ frame.length)
    (h : hostAnswer (checkSequence frame) s = some (t, status)) :
    checkFrame frame s =
      some (if status.matched then (t, .ok ())
        else (t.setResponse { err := false, rdata := zextChecksum t.crcExpect },
          .error (.checksumMismatch t.crcAcc t.crcExpect))) := by
  have hnot : ¬frame.length < Params.crcWireBytes := Nat.not_lt.mpr hlen
  simp only [checkFrame, if_neg hnot, h, checkReport_eq]
  cases status.matched <;> rfl

/-- Settles O58: the check answers whether the checksums are equal, and on a mismatch the report reads both of them. -/
theorem checkingWithBlockReportsBothValues : Obligations.CheckingWithBlockReportsBothValues := by
  intro data x y s computed received answered
  have hcheck := checkFrame_of_hostAnswer (by simp)
    ((hostAnswer_eq_some_iff _ _ _ _).mpr ⟨hostRun_checkSequence_append data x y s, rfl⟩)
  refine ⟨fun hmatch : crc16 (payloadOf data) = crcUnwire x y => ?_,
    fun hmismatch : crc16 (payloadOf data) ≠ crcUnwire x y =>
      ⟨?_, (frameDecode_append data x y).trans (if_neg hmismatch)⟩⟩
  · rw [if_pos hmatch] at hcheck
    exact hcheck
  · rw [if_neg hmismatch] at hcheck
    simp only [answered, ← zextChecksum_eq_append]
    exact hcheck

end Sys2Proof.Machine

namespace Sys2Proof.Machine

/-! # Reset (70_reset_and_hazards.md) -/

/-- Settles O11: the step takes the reset off `inputs` and performs `resetBlock`, which is the launch state at the same
`NOW` with the two fields of the model's own kept. -/
theorem resetEventKeepsOnlyTimeBase : Obligations.ResetEventKeepsOnlyTimeBase := by
  intro s es hs
  have hstep : step s = applyEvent .reset (s.setInputs es) := step_cons hs
  have hreset : applyEvent .reset (s.setInputs es) =
      .next { State.launch s.now with inputs := es, response := s.response } := rfl
  exact hstep.trans hreset

end Sys2Proof.Machine
